-- ==== Sys2Proof/Word.lean ====
section
/-! DEFINITION. The word type of the part's registers and the numbers that name its records. -/

namespace Sys2Proof

/-- A register word: every aperture register is one 32-bit word (R158). -/
abbrev Word := BitVec 32

/-- A byte address of memory, 0 to FFFFFFFFH. -/
abbrev Address := BitVec 32

/-- A window handle, 0 to 63 (R1). -/
abbrev Handle := Fin 64

/-- A channel number, 0 to 11 (R28). -/
abbrev ChannelId := Fin 12

/-- A domain number, 0 to 3; 0 is the supervisor (R137, R139). -/
abbrev DomainId := Fin 4

/-- A range slot of a domain, 0 to 3 (R141). -/
abbrev SlotId := Fin 4

/-- A notice level, 0 to 7, 0 the most urgent (R6). -/
abbrev Level := Fin 8

/-- A priority class, 0 to 3, 0 the most urgent (R55). -/
abbrev ClassId := Fin 4

/-- A set of causes, one bit a cause, placed as in the layouts' cause set. -/
abbrev CauseSet := BitVec 6

/-- A set of channels, channel `c` at bit `c` (channel set of the layouts). -/
abbrev ChannelSet := BitVec 12

/-- Four words: PARAM0 to PARAM3, or RESULT0 to RESULT3. -/
abbrev Words4 := Vector Word 4

end Sys2Proof
end

