-- ==== Sys2Proof/Syntax.lean ====
section
/-! DEFINITION. The commands the part takes from outside: one constructor per row of spec/opcode_table.json. -/

namespace Sys2Proof

/-- How a host access addresses the part (R158): which of HCSN0 to HCSN3 are asserted (bit `d` is HCSNd,
1 for asserted), and whether HRDN and HWRN are both asserted. With `bothStrobes` false the access is the
read or the write that the command's row says it is. -/
structure Access where
  chipSelects : BitVec 4
  bothStrobes : Bool
  deriving DecidableEq, Repr

/-- A command of the part. Each host command is one write of a command word to COMMAND (R161, R175): its code is
the constructor, `target` is bits 15:8 of the word and `upper` its reserved bits 31:16, which no command reads
and the COMMAND read value keeps. -/
inductive Instr where
  /-- OPEN WINDOW, code 10H (R16). -/
  | openWindow (access : Access) (target : BitVec 8) (upper : BitVec 16)
  /-- RELEASE WINDOW, code 11H (R17). -/
  | releaseWindow (access : Access) (target : BitVec 8) (upper : BitVec 16)
  /-- BIND WINDOW, code 12H (R39). -/
  | bindWindow (access : Access) (target : BitVec 8) (upper : BitVec 16)
  /-- REVOKE WINDOW, code 13H (R87). -/
  | revokeWindow (access : Access) (target : BitVec 8) (upper : BitVec 16)
  /-- REWIND WINDOW, code 14H (R19). -/
  | rewindWindow (access : Access) (target : BitVec 8) (upper : BitVec 16)
  /-- AMEND WINDOW, code 15H (R21). -/
  | amendWindow (access : Access) (target : BitVec 8) (upper : BitVec 16)
  /-- TOUCH WINDOW, code 16H (R110). -/
  | touchWindow (access : Access) (target : BitVec 8) (upper : BitVec 16)
  /-- READ WINDOW, code 17H (R25). -/
  | readWindow (access : Access) (target : BitVec 8) (upper : BitVec 16)
  /-- ENABLE CHANNEL, code 20H (R40). -/
  | enableChannel (access : Access) (target : BitVec 8) (upper : BitVec 16)
  /-- DISABLE CHANNEL, code 21H (R41). -/
  | disableChannel (access : Access) (target : BitVec 8) (upper : BitVec 16)
  /-- MASK CHANNEL, code 22H (R43). -/
  | maskChannel (access : Access) (target : BitVec 8) (upper : BitVec 16)
  /-- UNMASK CHANNEL, code 23H (R43). -/
  | unmaskChannel (access : Access) (target : BitVec 8) (upper : BitVec 16)
  /-- SET CHANNEL, code 24H (R44). -/
  | setChannel (access : Access) (target : BitVec 8) (upper : BitVec 16)
  /-- CUT CHAIN, code 25H (R45). -/
  | cutChain (access : Access) (target : BitVec 8) (upper : BitVec 16)
  /-- RESUME CHANNEL, code 26H (R47). -/
  | resumeChannel (access : Access) (target : BitVec 8) (upper : BitVec 16)
  /-- PULSE CHANNEL, code 27H (R48). -/
  | pulseChannel (access : Access) (target : BitVec 8) (upper : BitVec 16)
  /-- READ CHANNEL, code 28H (R49). -/
  | readChannel (access : Access) (target : BitVec 8) (upper : BitVec 16)
  /-- RETIRE NOTICE, code 30H (R127). -/
  | retireNotice (access : Access) (target : BitVec 8) (upper : BitVec 16)
  /-- RETIRE TOP, code 31H (R128). -/
  | retireTop (access : Access) (target : BitVec 8) (upper : BitVec 16)
  /-- SET NOTICES, code 32H (R130). -/
  | setNotices (access : Access) (target : BitVec 8) (upper : BitVec 16)
  /-- OPEN DOMAIN, code 40H (R144). -/
  | openDomain (access : Access) (target : BitVec 8) (upper : BitVec 16)
  /-- CLOSE DOMAIN, code 41H (R152). -/
  | closeDomain (access : Access) (target : BitVec 8) (upper : BitVec 16)
  /-- SET QUOTA, code 42H (R145). -/
  | setQuota (access : Access) (target : BitVec 8) (upper : BitVec 16)
  /-- SET RANGE, code 43H (R146). -/
  | setRange (access : Access) (target : BitVec 8) (upper : BitVec 16)
  /-- CLEAR RANGE, code 44H (R147). -/
  | clearRange (access : Access) (target : BitVec 8) (upper : BitVec 16)
  /-- ASSIGN CHANNEL, code 45H (R149). -/
  | assignChannel (access : Access) (target : BitVec 8) (upper : BitVec 16)
  /-- UNASSIGN CHANNEL, code 46H (R150). -/
  | unassignChannel (access : Access) (target : BitVec 8) (upper : BitVec 16)
  /-- SET ARBITER, code 47H (R64). -/
  | setArbiter (access : Access) (target : BitVec 8) (upper : BitVec 16)
  /-- PAUSE ARBITER, code 48H (R62). -/
  | pauseArbiter (access : Access) (target : BitVec 8) (upper : BitVec 16)
  /-- RUN ARBITER, code 49H (R62). -/
  | runArbiter (access : Access) (target : BitVec 8) (upper : BitVec 16)
  /-- SET CLOCK, code 4AH (R103). -/
  | setClock (access : Access) (target : BitVec 8) (upper : BitVec 16)
  /-- READ DOMAIN, code 4BH (R151). -/
  | readDomain (access : Access) (target : BitVec 8) (upper : BitVec 16)
  /-- MASTER CLEAR, code 4FH (R156). -/
  | masterClear (access : Access) (target : BitVec 8) (upper : BitVec 16)
  /-- UNKNOWN_COMMAND: a COMMAND write of a word whose code names no command (R163, R175). -/
  | unknownCommand (access : Access) (word : Word)
  /-- DISCARDED_WRITE: a COMMAND write of a word while the port is busy (R161). -/
  | discardedWrite (access : Access) (word : Word)
  /-- REGISTER_WRITE: a write of `value` to the register at offset 4 × `register` (R158, R160). -/
  | registerWrite (access : Access) (register : BitVec 4) (value : Word)
  /-- STATUS_READ: a read of STATUS (R169). -/
  | statusRead (access : Access)
  /-- ACKNOWLEDGE: a read of ACKNOWLEDGE (R123). -/
  | acknowledge (access : Access)
  /-- REQUEST_ASSERTION: RQn goes to asserted (R29). -/
  | requestAssertion (channel : ChannelId)
  /-- REQUEST_WITHDRAWAL: RQn goes to withdrawn (R29). -/
  | requestWithdrawal (channel : ChannelId)
  /-- MBGNT: the memory bus is granted (R71). -/
  | mbgnt
  /-- MDONE: the memory side ends a cycle (R75). -/
  | mdone
  /-- MERR: the memory side fails a cycle (R75, R81). -/
  | merr
  /-- STROBE_END: the end of a CHECK unit's acknowledge strobe (R73). -/
  | strobeEnd
  /-- LEASE_TICK: the divider completes its count (R104). -/
  | leaseTick
  /-- LEASE_EXPIRY: the share of a lease tick in which this window's lease runs out (R109). -/
  | leaseExpiry (window : Handle)
  /-- UNIT_TIMEOUT: the share of a lease tick in which the unit in flight times out (R83). -/
  | unitTimeout
  /-- HARDWARE_RESET: RESETN is asserted (R179). -/
  | hardwareReset
  /-- RESET_RELEASE: RESETN is withdrawn (R179). -/
  | resetRelease
  deriving DecidableEq, Repr

end Sys2Proof
end

