-- ==== Sys2Proof/Decode.lean ====
section
/-! DEFINITION. The command word (R175): which command a word written to COMMAND names, and the word that names a
command. -/

namespace Sys2Proof

/-- The command word with these fields (R175): code in bits 7:0, target in 15:8, reserved bits 31:16. -/
def commandWord (code target : BitVec 8) (upper : BitVec 16) : Word :=
  upper ++ (target ++ code)

/-- Bits 7:0 of a command word (R175). -/
def codeField (w : Word) : BitVec 8 := w.extractLsb' 0 8

/-- Bits 15:8 of a command word (R175). -/
def targetField (w : Word) : BitVec 8 := w.extractLsb' 8 8

/-- Bits 31:16 of a command word: reserved, ignored, and kept in the COMMAND read value (R175). -/
def upperField (w : Word) : BitVec 16 := w.extractLsb' 16 16

/-- The command that a word written to COMMAND names, by the table of command codes (R175). Every code not listed
there is UNKNOWN_COMMAND. -/
def decodeCommandWord (access : Access) (w : Word) : Instr :=
  match (codeField w).toNat with
  | 0x10 => .openWindow access (targetField w) (upperField w)
  | 0x11 => .releaseWindow access (targetField w) (upperField w)
  | 0x12 => .bindWindow access (targetField w) (upperField w)
  | 0x13 => .revokeWindow access (targetField w) (upperField w)
  | 0x14 => .rewindWindow access (targetField w) (upperField w)
  | 0x15 => .amendWindow access (targetField w) (upperField w)
  | 0x16 => .touchWindow access (targetField w) (upperField w)
  | 0x17 => .readWindow access (targetField w) (upperField w)
  | 0x20 => .enableChannel access (targetField w) (upperField w)
  | 0x21 => .disableChannel access (targetField w) (upperField w)
  | 0x22 => .maskChannel access (targetField w) (upperField w)
  | 0x23 => .unmaskChannel access (targetField w) (upperField w)
  | 0x24 => .setChannel access (targetField w) (upperField w)
  | 0x25 => .cutChain access (targetField w) (upperField w)
  | 0x26 => .resumeChannel access (targetField w) (upperField w)
  | 0x27 => .pulseChannel access (targetField w) (upperField w)
  | 0x28 => .readChannel access (targetField w) (upperField w)
  | 0x30 => .retireNotice access (targetField w) (upperField w)
  | 0x31 => .retireTop access (targetField w) (upperField w)
  | 0x32 => .setNotices access (targetField w) (upperField w)
  | 0x40 => .openDomain access (targetField w) (upperField w)
  | 0x41 => .closeDomain access (targetField w) (upperField w)
  | 0x42 => .setQuota access (targetField w) (upperField w)
  | 0x43 => .setRange access (targetField w) (upperField w)
  | 0x44 => .clearRange access (targetField w) (upperField w)
  | 0x45 => .assignChannel access (targetField w) (upperField w)
  | 0x46 => .unassignChannel access (targetField w) (upperField w)
  | 0x47 => .setArbiter access (targetField w) (upperField w)
  | 0x48 => .pauseArbiter access (targetField w) (upperField w)
  | 0x49 => .runArbiter access (targetField w) (upperField w)
  | 0x4A => .setClock access (targetField w) (upperField w)
  | 0x4B => .readDomain access (targetField w) (upperField w)
  | 0x4F => .masterClear access (targetField w) (upperField w)
  | _ => .unknownCommand access w

/-- The code of a host command, by the table of command codes; none for a row that names no code. -/
def commandCode : Instr → Option (BitVec 8)
  | .openWindow _ _ _ => some 0x10#8
  | .releaseWindow _ _ _ => some 0x11#8
  | .bindWindow _ _ _ => some 0x12#8
  | .revokeWindow _ _ _ => some 0x13#8
  | .rewindWindow _ _ _ => some 0x14#8
  | .amendWindow _ _ _ => some 0x15#8
  | .touchWindow _ _ _ => some 0x16#8
  | .readWindow _ _ _ => some 0x17#8
  | .enableChannel _ _ _ => some 0x20#8
  | .disableChannel _ _ _ => some 0x21#8
  | .maskChannel _ _ _ => some 0x22#8
  | .unmaskChannel _ _ _ => some 0x23#8
  | .setChannel _ _ _ => some 0x24#8
  | .cutChain _ _ _ => some 0x25#8
  | .resumeChannel _ _ _ => some 0x26#8
  | .pulseChannel _ _ _ => some 0x27#8
  | .readChannel _ _ _ => some 0x28#8
  | .retireNotice _ _ _ => some 0x30#8
  | .retireTop _ _ _ => some 0x31#8
  | .setNotices _ _ _ => some 0x32#8
  | .openDomain _ _ _ => some 0x40#8
  | .closeDomain _ _ _ => some 0x41#8
  | .setQuota _ _ _ => some 0x42#8
  | .setRange _ _ _ => some 0x43#8
  | .clearRange _ _ _ => some 0x44#8
  | .assignChannel _ _ _ => some 0x45#8
  | .unassignChannel _ _ _ => some 0x46#8
  | .setArbiter _ _ _ => some 0x47#8
  | .pauseArbiter _ _ _ => some 0x48#8
  | .runArbiter _ _ _ => some 0x49#8
  | .setClock _ _ _ => some 0x4A#8
  | .readDomain _ _ _ => some 0x4B#8
  | .masterClear _ _ _ => some 0x4F#8
  | .unknownCommand _ _ => none
  | .discardedWrite _ _ => none
  | .registerWrite _ _ _ => none
  | .statusRead _ => none
  | .acknowledge _ => none
  | .requestAssertion _ => none
  | .requestWithdrawal _ => none
  | .mbgnt => none
  | .mdone => none
  | .merr => none
  | .strobeEnd => none
  | .leaseTick => none
  | .leaseExpiry _ => none
  | .unitTimeout => none
  | .hardwareReset => none
  | .resetRelease => none

/-- The word a host writes to COMMAND for a command, with the access that writes it: the inverse of
`decodeCommandWord` on the 33 listed commands and on UNKNOWN_COMMAND. -/
def encodeCommandWord : Instr → Option (Access × Word)
  | .openWindow a t u => some (a, commandWord 0x10#8 t u)
  | .releaseWindow a t u => some (a, commandWord 0x11#8 t u)
  | .bindWindow a t u => some (a, commandWord 0x12#8 t u)
  | .revokeWindow a t u => some (a, commandWord 0x13#8 t u)
  | .rewindWindow a t u => some (a, commandWord 0x14#8 t u)
  | .amendWindow a t u => some (a, commandWord 0x15#8 t u)
  | .touchWindow a t u => some (a, commandWord 0x16#8 t u)
  | .readWindow a t u => some (a, commandWord 0x17#8 t u)
  | .enableChannel a t u => some (a, commandWord 0x20#8 t u)
  | .disableChannel a t u => some (a, commandWord 0x21#8 t u)
  | .maskChannel a t u => some (a, commandWord 0x22#8 t u)
  | .unmaskChannel a t u => some (a, commandWord 0x23#8 t u)
  | .setChannel a t u => some (a, commandWord 0x24#8 t u)
  | .cutChain a t u => some (a, commandWord 0x25#8 t u)
  | .resumeChannel a t u => some (a, commandWord 0x26#8 t u)
  | .pulseChannel a t u => some (a, commandWord 0x27#8 t u)
  | .readChannel a t u => some (a, commandWord 0x28#8 t u)
  | .retireNotice a t u => some (a, commandWord 0x30#8 t u)
  | .retireTop a t u => some (a, commandWord 0x31#8 t u)
  | .setNotices a t u => some (a, commandWord 0x32#8 t u)
  | .openDomain a t u => some (a, commandWord 0x40#8 t u)
  | .closeDomain a t u => some (a, commandWord 0x41#8 t u)
  | .setQuota a t u => some (a, commandWord 0x42#8 t u)
  | .setRange a t u => some (a, commandWord 0x43#8 t u)
  | .clearRange a t u => some (a, commandWord 0x44#8 t u)
  | .assignChannel a t u => some (a, commandWord 0x45#8 t u)
  | .unassignChannel a t u => some (a, commandWord 0x46#8 t u)
  | .setArbiter a t u => some (a, commandWord 0x47#8 t u)
  | .pauseArbiter a t u => some (a, commandWord 0x48#8 t u)
  | .runArbiter a t u => some (a, commandWord 0x49#8 t u)
  | .setClock a t u => some (a, commandWord 0x4A#8 t u)
  | .readDomain a t u => some (a, commandWord 0x4B#8 t u)
  | .masterClear a t u => some (a, commandWord 0x4F#8 t u)
  | .unknownCommand a w => some (a, w)
  | .discardedWrite _ _ => none
  | .registerWrite _ _ _ => none
  | .statusRead _ => none
  | .acknowledge _ => none
  | .requestAssertion _ => none
  | .requestWithdrawal _ => none
  | .mbgnt => none
  | .mdone => none
  | .merr => none
  | .strobeEnd => none
  | .leaseTick => none
  | .leaseExpiry _ => none
  | .unitTimeout => none
  | .hardwareReset => none
  | .resetRelease => none

/-- Whether a word's code is one of the 33 listed command codes (R163, R175). -/
def listedCode (w : Word) : Bool :=
  match decodeCommandWord ⟨0, false⟩ w with
  | .unknownCommand _ _ => false
  | _ => true

/-- The command that a table word spells. No row of spec/opcode_table.json gives any bits, so no word spells one. -/
def decodeTableWord (_nbits _w : Nat) : Option Instr := none

end Sys2Proof
end

