-- ==== Sys2Proof/Config.lean ====
section
/-! DEFINITION. The quantities the spec fixes for the part ("principal quantities", R2, R12, R44, R103,
R137, R146). The spec leaves no value open to an implementation, so nothing here is a free value. -/

namespace Sys2Proof.Config

/-- The highest byte address, FFFFFFFFH. -/
def maxAddress : Int := 4294967295

/-- A page is 4 KiB (R141). -/
def pageBytes : Nat := 4096

/-- The highest page number, FFFFFH (R146). -/
def maxPage : Nat := 1048575

/-- The largest count of a window (R12). -/
def maxCount : Nat := 65536

/-- The largest lease limit, in ticks (R7, R12). -/
def maxLease : Nat := 4095

/-- Laps saturate here (R5). -/
def maxLaps : Nat := 65535

/-- The largest burst limit (R44). -/
def maxBurst : Nat := 256

/-- The largest quota (R137, R144). -/
def maxQuota : Nat := 64

/-- The smallest running tick exponent (R103). -/
def minExponent : Nat := 8

/-- The largest tick exponent (R103). -/
def maxExponent : Nat := 24

/-- The largest unit limit, in ticks (R103). -/
def maxUnitLimit : Nat := 15

end Sys2Proof.Config
end

