-- ==== Sys2Proof/Machine/State.lean ====
section
/-! DEFINITION. The state of the part: every record the spec names, as plain data, and its values after hardware reset. -/

namespace Sys2Proof.Machine

/-! ## Windows (01_windows.md) -/

/-- The state of a live window (R11). FREE is the absence of the record (R1). -/
inductive WindowState where
  | parked | linked | active | draining | spent | failed
  deriving DecidableEq, Repr

/-- The step of a window (R2). -/
inductive AddressStep where
  | up | down | fixed
  deriving DecidableEq, Repr

/-- The direction of a window (R3). -/
inductive Direction where
  | inbound | outbound | check
  deriving DecidableEq, Repr

/-- The unit size: 1, 2 or 4 bytes (R2). -/
inductive UnitSize where
  | one | two | four
  deriving DecidableEq, Repr

/-- Why a window failed and its channel stalled (R8, R37). -/
inductive Failure where
  | busError | unitTimeout | expired
  deriving DecidableEq, Repr

/-- A reason for a notice (R115). -/
inductive Cause where
  | spent | lap | expired | busError | unitTimeout | override
  deriving DecidableEq, Repr

/-- A live window record. Its next field is read from the chain (`State.nextOf`). -/
structure Window where
  state : WindowState
  owner : DomainId
  home : SlotId
  base : Address
  size : UnitSize
  step : AddressStep
  direction : Direction
  count : Nat
  reload : Bool
  remaining : Nat
  address : Address
  laps : Nat
  channel : Option ChannelId
  /-- the notice level; none is NONE -/
  level : Option Level
  onSpent : Bool
  onLap : Bool
  leaseLimit : Nat
  lease : Nat
  fault : Option Failure
  tag : BitVec 16
  deriving DecidableEq, Repr

/-! ## Channels (02_channels_and_chains.md) -/

/-- The state of a channel (R33). -/
inductive ChannelState where
  | off | idle | armed | pending | moving | stalled
  deriving DecidableEq, Repr

/-- The mode of a channel (R60). -/
inductive Mode where
  | single | demand | block
  deriving DecidableEq, Repr

/-- A stall record: the failed window and its cause (R37). -/
structure Stall where
  window : Handle
  cause : Failure
  deriving DecidableEq, Repr

/-- A channel record (R28). -/
structure Channel where
  owner : Option DomainId
  state : ChannelState
  mode : Mode
  cls : ClassId
  burstLimit : Nat
  masked : Bool
  soft : Bool
  /-- the request line as last recorded -/
  line : Bool
  starved : Bool
  /-- head first -/
  chain : List Handle
  burst : Nat
  moved : BitVec 32
  disablePending : Bool
  stall : Option Stall
  deriving DecidableEq, Repr

/-! ## Arbiter (03_arbitration.md) -/

/-- The run state (R62). -/
inductive RunState where
  | run | paused
  deriving DecidableEq, Repr

/-- The policy of a class (R55). -/
inductive Policy where
  | fixed | rotate
  deriving DecidableEq, Repr

/-- The arbiter record (R53). -/
structure Arbiter where
  run : RunState
  policies : Vector Policy 4
  pointers : Vector ChannelId 4
  holder : Option ChannelId
  deriving DecidableEq, Repr

/-! ## Memory port (04_unit_transfers.md) -/

/-- The phase of a unit in flight (R67). -/
inductive Phase where
  | busWait | busCycle | strobe
  deriving DecidableEq, Repr

/-- The unit record (R67). -/
structure UnitRecord where
  channel : ChannelId
  window : Handle
  direction : Direction
  address : Address
  size : UnitSize
  lanes : BitVec 4
  last : Bool
  phase : Phase
  age : Nat
  deriving DecidableEq, Repr

/-- The memory port: at most one unit in flight, and the stale cycle flag (R67). -/
structure MemoryPort where
  record : Option UnitRecord
  stale : Bool
  deriving DecidableEq, Repr

/-! ## Lease clock (06_leases_and_the_lease_clock.md) -/

/-- The lease clock (R103, R104). -/
structure Clock where
  exponent : Nat
  unitLimit : Nat
  divider : Nat
  deriving DecidableEq, Repr

/-! ## Domains (08_domains_ranges_and_quotas.md) -/

/-- The state of a domain (R137). -/
inductive DomainState where
  | opened | closing | closed
  deriving DecidableEq, Repr

/-- A present range slot (R141, R142). -/
structure RangeSlot where
  first : Nat
  last : Nat
  read : Bool
  write : Bool
  homes : Nat
  deriving DecidableEq, Repr

/-- A domain record (R137). -/
structure Domain where
  state : DomainState
  quota : Nat
  held : Nat
  slots : Vector (Option RangeSlot) 4
  clearing : Bool
  /-- units awaited -/
  awaited : Nat
  deriving DecidableEq, Repr

/-! ## Notices (07_notices.md) -/

/-- The notice mode (R121). -/
inductive NoticeMode where
  | nested | flat
  deriving DecidableEq, Repr

/-- An entry of an in-service table: the window and its delivered causes (R119). -/
structure NoticeEntry where
  window : Handle
  causes : CauseSet
  deriving DecidableEq, Repr

/-- The notice record of a domain (R118, R119, R120). -/
structure NoticeRecord where
  mask : BitVec 8
  mode : NoticeMode
  autoRetire : Bool
  lists : Vector (List Handle) 8
  service : Vector (Option NoticeEntry) 8
  deriving DecidableEq, Repr

/-! ## Host port (09_the_host_port.md) -/

/-- The outcome codes (R166). -/
inductive OutcomeCode where
  | done | unknown | privilege | badHandle | notOwner | badValue | align | state | noticeHeld | inUse
  | range | quota | full | aborted | closed
  deriving DecidableEq, Repr

/-- A command that waits on the unit in flight, with what its owning block holds until then (R167, R168). -/
inductive Waiting where
  /-- REVOKE WINDOW, with the drained window (R90) -/
  | revoke (window : Handle)
  /-- CUT CHAIN, with the drained head and the number of windows that left the chain (R46) -/
  | cut (window : Handle) (removed : Nat)
  /-- DISABLE CHANNEL (R42) -/
  | disable (channel : ChannelId)
  /-- CLOSE DOMAIN, with the number of windows the teardown frees and the channels owned at its start (R154) -/
  | close (freed : Nat) (channels : ChannelSet)
  /-- MASTER CLEAR, with the same two (R157) -/
  | masterClear (freed : Nat) (channels : ChannelSet)
  deriving DecidableEq, Repr

/-- A port record (R159). The port is busy exactly while a command waits (R161, R162). -/
structure Port where
  waiting : Option Waiting
  commandWord : Word
  taken : Words4
  params : Words4
  outcome : OutcomeCode
  results : Words4
  overrun : Bool
  deriving DecidableEq, Repr

/-! ## The part -/

/-- Everything the spec gives the part, the input pins it samples, the word the last host read returned, and the
queue of commands that wait outside. -/
structure State where
  windows : Vector (Option Window) 64
  /-- pending cause sets, one for each handle (R116) -/
  causes : Vector CauseSet 64
  channels : Vector Channel 12
  domains : Vector Domain 4
  notices : Vector NoticeRecord 4
  ports : Vector Port 4
  arbiter : Arbiter
  memory : MemoryPort
  clock : Clock
  /-- the level standing on each RQ pin -/
  rq : Vector Bool 12
  /-- RESETN is asserted -/
  resetAsserted : Bool
  /-- the word the last host read returned (the model's own field) -/
  readData : Word
  /-- commands not yet taken, first in first out (the model's own field) -/
  pending : List Instr
  deriving DecidableEq, Repr

/-- Nothing stops the part: every refused command is an OUTCOME and every failed unit a FAILED window (R165, R81).
The type has no constructor, so no step of the model is a fault (safe: nothing is hidden behind one). -/
inductive Fault where
  deriving DecidableEq, Repr

/-- Why a command has no meaning. No arm of `exec` answers with it (safe). -/
inductive Refusal where
  /-- raised only by an arm of `exec` whose command has no meaning yet; there is none (safe) -/
  | notModelled (mnemonic : String)
  deriving DecidableEq, Repr

/-! ## Values after hardware reset -/

/-- A channel after hardware reset (R50), its recorded line withdrawn. -/
def Channel.reset : Channel where
  owner := none
  state := .off
  mode := .single
  cls := 3
  burstLimit := 1
  masked := false
  soft := false
  line := false
  starved := false
  chain := []
  burst := 0
  moved := 0
  disablePending := false
  stall := none

/-- A notice record after hardware reset (R133). -/
def NoticeRecord.reset : NoticeRecord where
  mask := 0
  mode := .nested
  autoRetire := false
  lists := Vector.replicate 8 []
  service := Vector.replicate 8 none

/-- A port record after hardware reset (R159). -/
def Port.reset : Port where
  waiting := none
  commandWord := 0
  taken := Vector.replicate 4 0
  params := Vector.replicate 4 0
  outcome := .done
  results := Vector.replicate 4 0
  overrun := false

/-- A CLOSED domain that holds nothing: domains 1 to 3 after hardware reset (R138) and after a close (R154). -/
def Domain.closed : Domain where
  state := .closed
  quota := 0
  held := 0
  slots := Vector.replicate 4 none
  clearing := false
  awaited := 0

/-- The supervisor domain after hardware reset (R138). -/
def Domain.supervisor : Domain :=
  { Domain.closed with state := .opened, quota := 64 }

/-- The arbiter after hardware reset (R53). -/
def Arbiter.reset : Arbiter where
  run := .run
  policies := Vector.replicate 4 .fixed
  pointers := Vector.replicate 4 11
  holder := none

/-- The part when it has just left hardware reset (R26, R50, R53, R85, R105, R133, R138, R159), with every RQ line
withdrawn and RESETN released (DESIGN CHOICE, unsafe, log 1), no word read yet (DESIGN CHOICE, unsafe, log 9) and no
command waiting. -/
def State.reset : State where
  windows := Vector.replicate 64 none
  causes := Vector.replicate 64 0
  channels := Vector.replicate 12 Channel.reset
  domains := #v[Domain.supervisor, Domain.closed, Domain.closed, Domain.closed]
  notices := Vector.replicate 4 NoticeRecord.reset
  ports := Vector.replicate 4 Port.reset
  arbiter := Arbiter.reset
  memory := { record := none, stale := false }
  clock := { exponent := 0, unitLimit := 0, divider := 0 }
  rq := Vector.replicate 12 false
  resetAsserted := false
  readData := 0
  pending := []

end Sys2Proof.Machine
end

