-- ==== Sys2Proof/Machine/Operands.lean ====
section
/-! DEFINITION. The parameter words a command reads (10_layouts_and_pins.md, R175 to R177): each field is read whole at
its full width, reserved bits are ignored, and a value or code the spec does not list is no value. -/

namespace Sys2Proof.Machine

/-- Bits `lo + width - 1` down to `lo` of a word, as a number. -/
def bits (w : Word) (lo width : Nat) : Nat := (w.extractLsb' lo width).toNat

/-- One yes/no bit of a word. -/
def bit (w : Word) (k : Nat) : Bool := w.getLsbD k

/-- A number as an index below `n`, where it is one: out of range is a refusal and not a wrap (R164). -/
def index? (n v : Nat) : Option (Fin n) := if h : v < n then some ⟨v, h⟩ else none

/-- Unit size codes (table of codes). -/
def UnitSize.ofCode : Nat → Option UnitSize
  | 1 => some .one
  | 2 => some .two
  | 4 => some .four
  | _ => none

/-- The size in bytes, which is also its code. -/
def UnitSize.bytes : UnitSize → Nat
  | .one => 1
  | .two => 2
  | .four => 4

/-- Step codes (table of codes). -/
def AddressStep.ofCode : Nat → Option AddressStep
  | 0 => some .up
  | 1 => some .down
  | 2 => some .fixed
  | _ => none

/-- Direction codes (table of codes). -/
def Direction.ofCode : Nat → Option Direction
  | 0 => some .inbound
  | 1 => some .outbound
  | 2 => some .check
  | _ => none

/-- Notice level codes: 0 to 7 the level, 8 NONE (table of codes). -/
def levelOfCode (v : Nat) : Option (Option Level) :=
  if v = 8 then some none else (index? 8 v).map some

/-- Channel mode codes (table of codes). -/
def Mode.ofCode : Nat → Option Mode
  | 0 => some .single
  | 1 => some .demand
  | 2 => some .block
  | _ => none

/-- Class policy codes (table of codes). -/
def Policy.ofCode : Nat → Option Policy
  | 0 => some .fixed
  | 1 => some .rotate
  | _ => none

/-- Notice mode codes (table of codes). -/
def NoticeMode.ofCode : Nat → Option NoticeMode
  | 0 => some .nested
  | 1 => some .flat
  | _ => none

/-! ## Window formats -/

/-- What a notify word and a tag word give: the five fields AMEND WINDOW replaces (R21). -/
structure Notify where
  leaseLimit : Nat
  level : Option Level
  onSpent : Bool
  onLap : Bool
  tag : BitVec 16
  deriving DecidableEq, Repr

/-- The notify word and the tag word; none where the level code or the lease limit names no value (R12, R21). -/
def decodeNotify (notify tag : Word) : Option Notify := do
  let level ← levelOfCode (bits notify 16 4)
  guard (bits notify 0 16 ≤ Config.maxLease)
  some {
    leaseLimit := bits notify 0 16
    level := level
    onSpent := bit notify 20
    onLap := bit notify 21
    tag := tag.extractLsb' 0 16 }

/-- The whole of a window's setting, as OPEN WINDOW takes it. -/
structure Setting where
  base : Address
  size : UnitSize
  step : AddressStep
  direction : Direction
  count : Nat
  reload : Bool
  notify : Notify
  deriving DecidableEq, Repr

/-- The lowest byte of the extent, exact (R2). -/
def Setting.lowest (x : Setting) : Int :=
  match x.step with
  | .down => (x.base.toNat : Int) - ((x.count : Int) - 1) * x.size.bytes
  | .up | .fixed => x.base.toNat

/-- The highest byte of the extent, exact (R2). -/
def Setting.highest (x : Setting) : Int :=
  match x.step with
  | .up => (x.base.toNat : Int) + (x.count : Int) * x.size.bytes - 1
  | .down | .fixed => (x.base.toNat : Int) + x.size.bytes - 1

/-- The extent lies in the address space (R2, R12). -/
def Setting.inSpace (x : Setting) : Bool :=
  decide (0 ≤ x.lowest) && decide (x.highest ≤ Config.maxAddress)

/-- The base is a multiple of the unit size (R13). -/
def Setting.aligned (x : Setting) : Bool := x.base.toNat % x.size.bytes == 0

/-- The fields of PARAM0 to PARAM3 of OPEN WINDOW; none where one of them names no value (R12). The extent is judged
apart. -/
def decodeSetting (p : Words4) : Option Setting := do
  let size ← UnitSize.ofCode (bits p[1] 17 3)
  let step ← AddressStep.ofCode (bits p[1] 20 2)
  let direction ← Direction.ofCode (bits p[1] 22 2)
  guard (1 ≤ bits p[1] 0 17 ∧ bits p[1] 0 17 ≤ Config.maxCount)
  let notify ← decodeNotify p[2] p[3]
  some {
    base := p[0]
    size := size
    step := step
    direction := direction
    count := bits p[1] 0 17
    reload := bit p[1] 24
    notify := notify }

/-! ## Channel, notice and supervisor formats -/

/-- What a channel setting word gives (R44). -/
structure ChannelSetting where
  mode : Mode
  cls : ClassId
  burstLimit : Nat
  deriving DecidableEq, Repr

/-- The channel setting word; none where a field names no value (R44). -/
def decodeChannelSetting (w : Word) : Option ChannelSetting := do
  let mode ← Mode.ofCode (bits w 0 2)
  let cls ← index? 4 (bits w 4 3)
  guard (1 ≤ bits w 16 9 ∧ bits w 16 9 ≤ Config.maxBurst)
  some { mode := mode, cls := cls, burstLimit := bits w 16 9 }

/-- What a notice setup word gives (R130). -/
structure NoticeSetup where
  mask : BitVec 8
  mode : NoticeMode
  autoRetire : Bool
  deriving DecidableEq, Repr

/-- The notice setup word; none where the mode code names no mode (R130). -/
def decodeNoticeSetup (w : Word) : Option NoticeSetup := do
  let mode ← NoticeMode.ofCode (bits w 8 2)
  some { mask := w.extractLsb' 0 8, mode := mode, autoRetire := bit w 12 }

/-- The policy word: class `c` in bits `2c+1` to `2c`; none where a code names no policy (R64). -/
def decodePolicies (w : Word) : Option (Vector Policy 4) := do
  let p0 ← Policy.ofCode (bits w 0 2)
  let p1 ← Policy.ofCode (bits w 2 2)
  let p2 ← Policy.ofCode (bits w 4 2)
  let p3 ← Policy.ofCode (bits w 6 2)
  some #v[p0, p1, p2, p3]

/-- A tick exponent and a unit limit that SET CLOCK accepts (R103). -/
def clockAccepted (exponent unitLimit : Nat) : Bool :=
  (exponent == 0 || (decide (Config.minExponent ≤ exponent) && decide (exponent ≤ Config.maxExponent)))
    && decide (unitLimit ≤ Config.maxUnitLimit)

/-- A first and a last page that SET RANGE accepts (R146): each is a whole 32-bit word. -/
def pagesAccepted (first last : Nat) : Bool :=
  decide (first ≤ Config.maxPage) && decide (last ≤ Config.maxPage) && decide (first ≤ last)

/-! ## The host access -/

/-- The aperture an access reaches: the one chip select asserted, with one strobe (R158). -/
def apertureOf (a : Access) : Option DomainId :=
  if a.bothStrobes then none
  else match a.chipSelects.toNat with
    | 1 => some 0
    | 2 => some 1
    | 4 => some 2
    | 8 => some 3
    | _ => none

/-- More than one chip select with one strobe: a read of this kind returns 0 and has no effect (R158). -/
def severalSelected (a : Access) : Bool :=
  !a.bothStrobes && ((apertureOf a).isNone && a.chipSelects != 0)

end Sys2Proof.Machine
end

