-- ==== Sys2Proof/Machine/Flags.lean ====
section
/-! DEFINITION. What the spec defines as a function of the records: the effective request, the notice that is next for
delivery, the output lines, and the views of items that are stored once. -/

namespace Sys2Proof.Machine

/-! ## Reading the records -/

/-- The record of a handle; none where the window is FREE (R1). -/
def State.window (s : State) (h : Handle) : Option Window := s.windows[h]

/-- The pending cause set of a handle (R116). -/
def State.pendingCauses (s : State) (h : Handle) : CauseSet := s.causes[h]

/-- A channel record. -/
def State.channel (s : State) (c : ChannelId) : Channel := s.channels[c]

/-- A domain record. -/
def State.domain (s : State) (d : DomainId) : Domain := s.domains[d]

/-- A domain's notice record. -/
def State.notice (s : State) (d : DomainId) : NoticeRecord := s.notices[d]

/-- A port record. -/
def State.port (s : State) (d : DomainId) : Port := s.ports[d]

/-- BUSY: the port holds an accepted command that has not completed (R161). -/
def Port.busy (p : Port) : Bool := p.waiting.isSome

/-- All handles, ascending. -/
def handles : List Handle := List.finRange 64

/-- All channels, ascending. -/
def channelIds : List ChannelId := List.finRange 12

/-- All domains, ascending. -/
def domainIds : List DomainId := List.finRange 4

/-- All levels, the most urgent first. -/
def levels : List Level := List.finRange 8

/-! ## Windows and chains -/

/-- The handle that follows `h` in a chain. -/
def nextInChain (h : Handle) : List Handle → Option Handle
  | [] => none
  | x :: rest => if x = h then rest.head? else nextInChain h rest

/-- The next field of a window: present while the window stands on a chain and is not its tail (R9, R10). -/
def State.nextOf (s : State) (h : Handle) : Option Handle :=
  match s.window h with
  | none => none
  | some w =>
    match w.channel with
    | none => none
    | some c => nextInChain h (s.channel c).chain

/-- The window has its unit in the memory port (R90). -/
def State.inFlight (s : State) (h : Handle) : Bool :=
  match s.memory.record with
  | none => false
  | some u => u.window == h

/-- The windows a domain owns (R143: held is their number). -/
def State.ownedWindows (s : State) (d : DomainId) : List Handle :=
  handles.filter fun h => (s.window h).any fun w => w.owner == d

/-- The live windows of a domain homed in one of its slots (R142: homes is their number). -/
def State.homedWindows (s : State) (d : DomainId) (i : SlotId) : List Handle :=
  handles.filter fun h => (s.window h).any fun w => w.owner == d && w.home == i

/-- The channels whose owner satisfies `p`, as a channel set. -/
def State.channelSet (s : State) (p : DomainId → Bool) : ChannelSet :=
  BitVec.ofBoolListLE (channelIds.map fun c => ((s.channel c).owner).any p)

/-! ## Requests -/

/-- The effective request: the line asserted and not masked, or the soft request set (R30). -/
def Channel.effective (ch : Channel) : Bool := (ch.line && !ch.masked) || ch.soft

/-- The lease of a window counts at a tick (R106). -/
def State.leaseCounts (s : State) (h : Handle) : Bool :=
  match s.window h with
  | none => false
  | some w =>
    w.state == .active && w.leaseLimit != 0 &&
      match w.channel with
      | none => false
      | some c =>
        ((s.channel c).state == .armed || (s.channel c).state == .pending) && !(s.channel c).masked

/-! ## Notices -/

/-- The flag of one cause in a cause set (layouts: SPENT, LAP, EXPIRED, BUS-ERROR, UNIT-TIMEOUT, OVERRIDE from the
lowest bit). -/
def Cause.flag : Cause → CauseSet
  | .spent => 1
  | .lap => 2
  | .expired => 4
  | .busError => 8
  | .unitTimeout => 16
  | .override => 32

/-- The cause that a failure raises (R81, R83, R109). -/
def Failure.cause : Failure → Cause
  | .busError => .busError
  | .unitTimeout => .unitTimeout
  | .expired => .expired

/-- The in-service entry that names a window, with its level (R119). -/
def NoticeRecord.entryOf (n : NoticeRecord) (h : Handle) : Option (Level × NoticeEntry) :=
  levels.findSome? fun l =>
    match n.service[l] with
    | none => none
    | some e => if e.window = h then some (l, e) else none

/-- The window is in service in its owner's notice record (R116, R119). -/
def State.inService (s : State) (h : Handle) : Bool :=
  match s.window h with
  | none => false
  | some w => ((s.notice w.owner).entryOf h).isSome

/-- No entry in service holds a level back: NESTED looks at that level and the more urgent ones, FLAT at that level
alone (R121). -/
def NoticeRecord.unheld (n : NoticeRecord) (l : Level) : Bool :=
  match n.mode with
  | .nested => levels.all fun k => decide (l < k) || (n.service[k]).isNone
  | .flat => (n.service[l]).isNone

/-- Pending windows of the level may be delivered (R121). -/
def NoticeRecord.admits (n : NoticeRecord) (l : Level) : Bool :=
  !(n.mask.getLsbD l.val) && n.unheld l

/-- The next notice of a domain: the most urgent open level with a pending window, and the head of its list (R123). -/
def NoticeRecord.next (n : NoticeRecord) : Option (Level × Handle) :=
  levels.findSome? fun l =>
    if n.admits l then (n.lists[l]).head?.map fun h => (l, h) else none

/-! ## Output lines -/

/-- NOTEd is asserted exactly when the domain has an eligible window (R122). -/
def State.note (s : State) (d : DomainId) : Bool := (s.notice d).next.isSome

/-- AKn is asserted for the channel named in a present record (R67). -/
def State.ak (s : State) (c : ChannelId) : Bool :=
  match s.memory.record with
  | none => false
  | some u => u.channel == c

/-- LAST is asserted while a present record has last yes (R67, R74). -/
def State.lastLine (s : State) : Bool :=
  match s.memory.record with
  | none => false
  | some u => u.last

/-- MBREQ is asserted for a bus unit in BUS-WAIT or BUS-CYCLE while the stale cycle flag is clear (R67). -/
def State.mbreq (s : State) : Bool :=
  match s.memory.record with
  | none => false
  | some u => u.direction != .check && u.phase != .strobe && !s.memory.stale

/-- What drives the memory bus: a record in BUS-CYCLE (R67). -/
def State.busRecord (s : State) : Option UnitRecord :=
  match s.memory.record with
  | none => none
  | some u => if u.phase = .busCycle then some u else none

/-- MA[31:0], driven in BUS-CYCLE (R67, R69). -/
def State.ma (s : State) : Option Address := s.busRecord.map fun u => u.address

/-- MBE[3:0], driven in BUS-CYCLE (R67, R69). -/
def State.mbe (s : State) : Option (BitVec 4) := s.busRecord.map fun u => u.lanes

/-- MWR, driven in BUS-CYCLE: asserted for a memory write (R67, R69). -/
def State.mwr (s : State) : Option Bool := s.busRecord.map fun u => u.direction == .inbound

end Sys2Proof.Machine
end

