-- ==== Sys2Proof/Machine/Results.lean ====
section
/-! DEFINITION. The words a host reads (10_layouts_and_pins.md, R178): STATUS, the notice word and the RESULT words.
Every reserved bit and every bit of an absent field is 0. -/

namespace Sys2Proof.Machine

/-- A number placed with its lowest bit at bit `lo` of a word. -/
def field (v lo : Nat) : Word := BitVec.ofNat 32 v <<< lo

/-- A yes/no flag at bit `k` of a word. -/
def flag (b : Bool) (k : Nat) : Word := field b.toNat k

/-- Four result words. -/
def words (r0 r1 r2 r3 : Word) : Words4 := #v[r0, r1, r2, r3]

/-- RESULT0 to RESULT3 all zero. -/
def noResults : Words4 := words 0 0 0 0

/-! ## Codes common to all words -/

/-- Window state codes; 0 is FREE. -/
def WindowState.code : WindowState → Nat
  | .parked => 1
  | .linked => 2
  | .active => 3
  | .draining => 4
  | .spent => 5
  | .failed => 6

/-- Channel state codes. -/
def ChannelState.code : ChannelState → Nat
  | .off => 0
  | .idle => 1
  | .armed => 2
  | .pending => 3
  | .moving => 4
  | .stalled => 5

/-- Domain state codes. -/
def DomainState.code : DomainState → Nat
  | .opened => 0
  | .closing => 1
  | .closed => 2

/-- Step codes. -/
def AddressStep.code : AddressStep → Nat
  | .up => 0
  | .down => 1
  | .fixed => 2

/-- Direction codes. -/
def Direction.code : Direction → Nat
  | .inbound => 0
  | .outbound => 1
  | .check => 2

/-- Notice level codes: 8 is NONE. -/
def levelCode : Option Level → Nat
  | some l => l.val
  | none => 8

/-- Fault and stall cause codes. -/
def Failure.code : Failure → Nat
  | .busError => 0
  | .unitTimeout => 1
  | .expired => 2

/-- Channel mode codes. -/
def Mode.code : Mode → Nat
  | .single => 0
  | .demand => 1
  | .block => 2

/-- Class policy codes. -/
def Policy.code : Policy → Nat
  | .fixed => 0
  | .rotate => 1

/-- Notice mode codes. -/
def NoticeMode.code : NoticeMode → Nat
  | .nested => 0
  | .flat => 1

/-- Run state codes. -/
def RunState.code : RunState → Nat
  | .run => 0
  | .paused => 1

/-- Outcome codes (R166). -/
def OutcomeCode.code : OutcomeCode → Nat
  | .done => 0
  | .unknown => 1
  | .privilege => 2
  | .badHandle => 3
  | .notOwner => 4
  | .badValue => 5
  | .align => 6
  | .state => 7
  | .noticeHeld => 8
  | .inUse => 9
  | .range => 10
  | .quota => 11
  | .full => 12
  | .aborted => 13
  | .closed => 14

/-! ## Window words -/

/-- The state-and-remaining word: state in bits 2:0, remaining in 24:8. -/
def stateAndRemaining (w : Window) : Word := field w.state.code 0 ||| field w.remaining 8

/-- The chain word: state in bits 2:0, chain length in 14:8. -/
def chainWord (st : WindowState) (length : Nat) : Word := field st.code 0 ||| field length 8

/-- The lease word: state in bits 2:0, lease remaining in 19:8. -/
def leaseWord (w : Window) : Word := field w.state.code 0 ||| field w.lease 8

/-- The identity word of READ WINDOW part 0. -/
def identityWord (w : Window) : Word :=
  field w.count 0 ||| field w.size.bytes 17 ||| field w.step.code 20 ||| field w.direction.code 22 |||
    flag w.reload 24 ||| field w.state.code 25 ||| field w.owner.val 28 ||| field w.home.val 30

/-- The notify word as the window holds it. -/
def notifyWord (w : Window) : Word :=
  field w.leaseLimit 0 ||| field (levelCode w.level) 16 ||| flag w.onSpent 20 ||| flag w.onLap 21

/-- The tag word. -/
def tagWord (w : Window) : Word := field w.tag.toNat 0

/-- The count word of READ WINDOW part 1. -/
def countWord (w : Window) : Word := field w.remaining 0 ||| field w.lease 20

/-- An optional number with its presence flag; both 0 where it is absent (R178). -/
def optionalField {n : Nat} (v : Option (Fin n)) (lo present : Nat) : Word :=
  match v with
  | none => 0
  | some x => field x.val lo ||| flag true present

/-- The link word of READ WINDOW part 1. -/
def linkWord (s : State) (h : Handle) (w : Window) : Word :=
  field w.laps 0 ||| optionalField w.channel 16 20 ||| optionalField (s.nextOf h) 24 30 |||
    flag (s.inService h) 31

/-- The cause word of READ WINDOW part 1. -/
def causeWord (s : State) (h : Handle) (w : Window) : Word :=
  field (s.pendingCauses h).toNat 0 |||
    match w.fault with
    | none => 0
    | some f => field f.code 8 ||| flag true 10

/-- READ WINDOW part 0 (R25). -/
def windowPart0 (w : Window) : Words4 := words w.base (identityWord w) (notifyWord w) (tagWord w)

/-- READ WINDOW part 1 (R25). -/
def windowPart1 (s : State) (h : Handle) (w : Window) : Words4 :=
  words w.address (countWord w) (linkWord s h w) (causeWord s h w)

/-! ## Channel words -/

/-- The channel word of READ CHANNEL. -/
def channelWord (ch : Channel) : Word :=
  optionalField ch.owner 0 2 ||| field ch.state.code 3 ||| field ch.mode.code 6 ||| field ch.cls.val 8 |||
    field ch.burstLimit 10 ||| flag ch.masked 19 ||| flag ch.soft 20 ||| flag ch.line 21 |||
    flag ch.effective 22 ||| flag ch.starved 23 ||| flag ch.disablePending 24

/-- The chain summary word of READ CHANNEL. -/
def chainSummaryWord (ch : Channel) : Word :=
  optionalField ch.chain.head? 0 6 ||| optionalField ch.chain.getLast? 8 14 |||
    field ch.chain.length 16 ||| field ch.burst 23

/-- The stall word of READ CHANNEL. -/
def stallWord (ch : Channel) : Word :=
  match ch.stall with
  | none => 0
  | some x => field x.window.val 0 ||| field x.cause.code 6 ||| flag true 8

/-- READ CHANNEL (R49). -/
def channelResults (ch : Channel) : Words4 :=
  words (channelWord ch) (chainSummaryWord ch) ch.moved (stallWord ch)

/-! ## Notice words -/

/-- The notice word for a window delivered at a level (R123). -/
def deliveredWord (h : Handle) (l : Level) (causes : CauseSet) (tag : BitVec 16) : Word :=
  field tag.toNat 0 ||| field causes.toNat 16 ||| field l.val 22 ||| field h.val 25 ||| flag true 31

/-- The notice word that a read of ACKNOWLEDGE or PEEK returns now: 0 in every bit when no window is eligible
(R123, R125). -/
def State.noticeWord (s : State) (d : DomainId) : Word :=
  match (s.notice d).next with
  | none => 0
  | some (l, h) => deliveredWord h l (s.pendingCauses h) ((s.window h).elim 0 fun w => w.tag)

/-- The retire word (R127, R128). -/
def retireWord (l : Level) (e : NoticeEntry) : Word :=
  field e.causes.toNat 16 ||| field l.val 22 ||| field e.window.val 25

/-- The notice setup of a domain with the level of its NOTE line at bit 16 (R130, R151). -/
def setupWord (s : State) (d : DomainId) : Word :=
  field (s.notice d).mask.toNat 0 ||| field (s.notice d).mode.code 8 ||| flag (s.notice d).autoRetire 12 |||
    flag (s.note d) 16

/-! ## Supervisor words -/

/-- The slot word. -/
def slotWord (i : SlotId) (r : RangeSlot) : Word := field i.val 0 ||| flag r.read 8 ||| flag r.write 9

/-- The arbiter word (R63). -/
def arbiterWord (a : Arbiter) : Word :=
  field a.run.code 0 ||| optionalField a.holder 8 12 ||| field (a.policies[0]).code 16 |||
    field (a.policies[1]).code 18 ||| field (a.policies[2]).code 20 ||| field (a.policies[3]).code 22

/-- The pointer word (R63). -/
def pointerWord (a : Arbiter) : Word :=
  field (a.pointers[0]).val 0 ||| field (a.pointers[1]).val 8 ||| field (a.pointers[2]).val 16 |||
    field (a.pointers[3]).val 24

/-- The results of PAUSE ARBITER, RUN ARBITER and SET ARBITER (R63). -/
def arbiterResults (a : Arbiter) : Words4 := words (arbiterWord a) (pointerWord a) 0 0

/-- The clock word (R103). -/
def clockWord (k : Clock) : Word := field k.exponent 0 ||| field k.unitLimit 8

/-- The domain word of READ DOMAIN. -/
def domainWord (s : State) (d : DomainId) : Word :=
  field (s.domain d).state.code 0 ||| flag (s.domain d).clearing 3 ||| field (s.domain d).quota 4 |||
    field (s.domain d).held 12 ||| field (s.channelSet fun x => x == d).toNat 20

/-- READ DOMAIN (R151). With the slot absent, bits 30:20 of RESULT1 and the whole of RESULT2 and RESULT3 are 0. -/
def domainResults (s : State) (d : DomainId) (i : SlotId) : Words4 :=
  match (s.domain d).slots[i] with
  | none => words (domainWord s d) (setupWord s d) 0 0
  | some r =>
    words (domainWord s d)
      (setupWord s d ||| flag true 20 ||| flag r.read 21 ||| flag r.write 22 ||| field r.homes 24)
      (field r.first 0) (field r.last 0)

/-- The results of a close or a MASTER CLEAR (R154, R157). -/
def teardownResults (freed : Nat) (channels : ChannelSet) : Words4 :=
  words (field freed 0) (field channels.toNat 0) 0 0

/-! ## The registers of an aperture -/

/-- The STATUS word (R169). -/
def State.statusWord (s : State) (d : DomainId) : Word :=
  flag (s.port d).busy 0 ||| flag (s.port d).overrun 1 ||| flag (s.note d) 2 |||
    field (s.domain d).state.code 4 ||| field (s.port d).outcome.code 8

/-- What a read of the register at offset 4 × `register` of aperture `d` returns (R158, R160, R169 to R171; DESIGN CHOICE,
safe, log 8). -/
def State.readRegister (s : State) (d : DomainId) (register : BitVec 4) : Word :=
  match register.toNat with
  | 0 => (s.port d).commandWord
  | 1 => (s.port d).params[0]
  | 2 => (s.port d).params[1]
  | 3 => (s.port d).params[2]
  | 4 => (s.port d).params[3]
  | 5 => (s.port d).results[0]
  | 6 => (s.port d).results[1]
  | 7 => (s.port d).results[2]
  | 8 => (s.port d).results[3]
  | 9 => s.statusWord d
  | 10 => s.noticeWord d
  | 11 => s.noticeWord d
  | _ => 0

end Sys2Proof.Machine
end

