-- ==== Sys2Proof/Machine/Ops.lean ====
section
/-! DEFINITION. The shared operations of the eight blocks: updates of one record, the notice unit's raise, the chain, the
grant decision and the issue of a unit, the end of a unit, the lease countdown, the teardown, and the acceptance and
completion of a command. -/

namespace Sys2Proof.Machine

/-! ## Updates of one record -/

/-- Write a window record; none frees the handle. -/
def State.setWindow (s : State) (h : Handle) (w : Option Window) : State :=
  { s with windows := s.windows.set h w }

/-- Change a live window. -/
def State.updWindow (s : State) (h : Handle) (f : Window → Window) : State :=
  s.setWindow h ((s.window h).map f)

/-- Change every window record at once. -/
def State.mapWindows (s : State) (f : Handle → Option Window → Option Window) : State :=
  { s with windows := Vector.ofFn fun h => f h (s.window h) }

/-- Write the pending cause set of a handle. -/
def State.setCauses (s : State) (h : Handle) (x : CauseSet) : State :=
  { s with causes := s.causes.set h x }

/-- Change every pending cause set at once. -/
def State.mapCauses (s : State) (f : Handle → CauseSet → CauseSet) : State :=
  { s with causes := Vector.ofFn fun h => f h (s.pendingCauses h) }

/-- Change a channel record. -/
def State.updChannel (s : State) (c : ChannelId) (f : Channel → Channel) : State :=
  { s with channels := s.channels.set c (f (s.channel c)) }

/-- Change every channel record at once. -/
def State.mapChannels (s : State) (f : ChannelId → Channel → Channel) : State :=
  { s with channels := Vector.ofFn fun c => f c (s.channel c) }

/-- Change a domain record. -/
def State.updDomain (s : State) (d : DomainId) (f : Domain → Domain) : State :=
  { s with domains := s.domains.set d (f (s.domain d)) }

/-- Change every domain record at once. -/
def State.mapDomains (s : State) (f : DomainId → Domain → Domain) : State :=
  { s with domains := Vector.ofFn fun d => f d (s.domain d) }

/-- Change a notice record. -/
def State.updNotice (s : State) (d : DomainId) (f : NoticeRecord → NoticeRecord) : State :=
  { s with notices := s.notices.set d (f (s.notice d)) }

/-- Change every notice record at once. -/
def State.mapNotices (s : State) (f : DomainId → NoticeRecord → NoticeRecord) : State :=
  { s with notices := Vector.ofFn fun d => f d (s.notice d) }

/-- Change a port record. -/
def State.updPort (s : State) (d : DomainId) (f : Port → Port) : State :=
  { s with ports := s.ports.set d (f (s.port d)) }

/-- Change every port record at once. -/
def State.mapPorts (s : State) (f : DomainId → Port → Port) : State :=
  { s with ports := Vector.ofFn fun d => f d (s.port d) }

/-- Write the port holder (R53). -/
def State.setHolder (s : State) (c : Option ChannelId) : State :=
  { s with arbiter := { s.arbiter with holder := c } }

/-- Write the unit record (R67). -/
def State.setRecord (s : State) (u : Option UnitRecord) : State :=
  { s with memory := { s.memory with record := u } }

/-- Write the stale cycle flag (R84). -/
def State.setStale (s : State) (b : Bool) : State :=
  { s with memory := { s.memory with stale := b } }

/-! ## Windows -/

/-- Lease remaining set to the lease limit (R108). -/
def Window.renewed (w : Window) : Window := { w with lease := w.leaseLimit }

/-- Off its chain and PARKED, with its channel field removed; every other field kept (R10, R45, R87). -/
def Window.parkedOff (w : Window) : Window := { w with state := .parked, channel := none }

/-- FAILED with this fault, off its chain, its other fields kept (R81, R83, R109). -/
def Window.failedWith (f : Failure) (w : Window) : Window :=
  { w with state := .failed, channel := none, fault := some f }

/-- The current address after one unit (R77), in 32 bits (R4). -/
def Window.nextAddress (w : Window) : Address :=
  match w.step with
  | .up => w.address + BitVec.ofNat 32 w.size.bytes
  | .down => w.address - BitVec.ofNat 32 w.size.bytes
  | .fixed => w.address

/-- One unit counted: remaining, current address and the renewed lease (R77). -/
def Window.counted (w : Window) : Window :=
  { w with remaining := w.remaining - 1, address := w.nextAddress, lease := w.leaseLimit }

/-- Reloaded: base, full count, one more lap, saturating (R5, R78). -/
def Window.reloaded (w : Window) : Window :=
  { w with address := w.base, remaining := w.count, laps := min (w.laps + 1) Config.maxLaps }

/-- The unit brings remaining to 0 (R57, R78, R79). -/
def Window.exhausts (w : Window) : Bool := w.remaining - 1 == 0

/-- The ACTIVE head after a completion OK (R77 to R79). -/
def Window.afterHeadOk (w : Window) : Window :=
  if w.exhausts then
    if w.reload then w.counted.reloaded else { w.counted with state := .spent, channel := none }
  else w.counted

/-- The DRAINING window after a completion OK (R94). -/
def Window.afterDrainOk (w : Window) : Window :=
  if w.exhausts then
    if w.reload then w.counted.reloaded.parkedOff else { w.counted with state := .spent, channel := none }
  else w.counted.parkedOff

/-- The cause a completion OK raises, if the level is numeric (R78, R79, R94, R115). -/
def Window.okCause (w : Window) : Option Cause :=
  if w.exhausts then
    if w.reload then (if w.onLap then some .lap else none) else (if w.onSpent then some .spent else none)
  else none

/-! ## The notice unit -/

/-- Change one pending list. -/
def NoticeRecord.updList (n : NoticeRecord) (l : Level) (f : List Handle → List Handle) : NoticeRecord :=
  { n with lists := n.lists.set l (f n.lists[l]) }

/-- Write one in-service entry. -/
def NoticeRecord.setEntry (n : NoticeRecord) (l : Level) (e : Option NoticeEntry) : NoticeRecord :=
  { n with service := n.service.set l e }

/-- A handle leaves a pending list from whatever place it holds; the order of the others is kept (R118). -/
def State.leaveList (s : State) (d : DomainId) (l : Level) (h : Handle) : State :=
  s.updNotice d fun n => n.updList l fun q => q.filter fun x => x != h

/-- A handle joins a pending list at its tail (R118). -/
def State.joinList (s : State) (d : DomainId) (l : Level) (h : Handle) : State :=
  s.updNotice d fun n => n.updList l fun q => q ++ [h]

/-- The window table raises a cause for a window at the level it holds (R6, R115, R117): with NONE nothing is raised;
an empty pending set makes the window join its list, and a set that is not empty keeps its place. -/
def State.raise (s : State) (h : Handle) (x : Cause) : State :=
  match s.window h with
  | none => s
  | some w =>
    match w.level with
    | none => s
    | some l =>
      let joined := if s.pendingCauses h = 0 then s.joinList w.owner l h else s
      joined.setCauses h (s.pendingCauses h ||| x.flag)

/-- Raise a cause if there is one. -/
def State.raise? (s : State) (h : Handle) : Option Cause → State
  | none => s
  | some x => s.raise h x

/-- An in-service entry, unless it names this window. -/
def NoticeEntry.unless (h : Handle) (e : NoticeEntry) : Option NoticeEntry := if e.window = h then none else some e

/-- A notice record without a window: out of every pending list and of the in-service table. -/
def NoticeRecord.without (n : NoticeRecord) (h : Handle) : NoticeRecord :=
  { n with
    lists := Vector.ofFn fun l => (n.lists[l]).filter fun x => x != h
    service := Vector.ofFn fun l => (n.service[l]).bind fun e => e.unless h }

/-- A handle becomes FREE: its pending set is empty, it leaves its list and it is not in service (R17, R116, R132). -/
def State.freeWindow (s : State) (h : Handle) (w : Window) : State :=
  ((s.setWindow h none).setCauses h 0).updNotice w.owner fun n => n.without h

/-! ## Chains -/

/-- A window leaves a chain from whatever place it holds; the order of the others is kept (R10, R35). -/
def State.unlink (s : State) (c : ChannelId) (h : Handle) : State :=
  s.updChannel c fun ch => { ch with chain := ch.chain.filter fun x => x != h }

/-- A LINKED head becomes ACTIVE with its lease renewed; a head already ACTIVE is left as it is (R36, R108). -/
def State.activateHead (s : State) (c : ChannelId) : State :=
  match (s.channel c).chain with
  | [] => s
  | h :: _ =>
    s.updWindow h fun w => if w.state = .linked then { w.renewed with state := .active } else w

/-- A channel becomes IDLE: the soft request is cleared, and starved is set if the line stands asserted (R31 to R33). -/
def Channel.toIdle (ch : Channel) : Channel :=
  { ch with state := .idle, soft := false, starved := ch.starved || ch.line }

/-- A channel settles by its chain and its effective request (R33). A channel that is IDLE already and stays so does not
become IDLE anew, so starved is not set again. -/
def Channel.settled (ch : Channel) : Channel :=
  if ch.chain.isEmpty then
    if ch.state = .idle then ch else ch.toIdle
  else if ch.effective then { ch with state := .pending } else { ch with state := .armed }

/-- ARMED and PENDING follow the effective request (R30); the other states do not. -/
def Channel.followRequest (ch : Channel) : Channel :=
  match ch.state with
  | .armed => if ch.effective then { ch with state := .pending } else ch
  | .pending => if ch.effective then ch else { ch with state := .armed }
  | _ => ch

/-- Every field at its value after hardware reset but the recorded request line (R51, R52): unowned and OFF. -/
def Channel.released (ch : Channel) : Channel := { Channel.reset with line := ch.line }

/-! ## The arbiter and the issue of a unit -/

/-- The byte lanes of a unit, by its address and size (R69): lane `k` carries the byte whose address leaves `k` by 4. -/
def unitLanes (a : Address) (size : UnitSize) : BitVec 4 :=
  match size with
  | .one => 1#4 <<< (a.toNat % 4)
  | .two => 3#4 <<< (a.toNat % 4)
  | .four => 15#4

/-- The unit record that an issue against a window writes (R68). -/
def unitFor (c : ChannelId) (h : Handle) (w : Window) : UnitRecord where
  channel := c
  window := h
  direction := w.direction
  address := w.address
  size := w.size
  lanes := unitLanes w.address w.size
  last := w.remaining == 1
  phase := if w.direction = .check then .strobe else .busWait
  age := 0

/-- The memory port issues a unit against the head window of a channel (R68). -/
def State.issue (s : State) (c : ChannelId) : State :=
  match (s.channel c).chain with
  | [] => s
  | h :: _ =>
    match s.window h with
    | none => s
    | some w => s.setRecord (some (unitFor c h w))

/-- The channel is PENDING in the class (R55). -/
def State.contends (s : State) (k : ClassId) (c : ChannelId) : Bool :=
  (s.channel c).state == .pending && (s.channel c).cls == k

/-- The channels in the order in which a class is searched (R55): FIXED upward from 0, ROTATE upward in cyclic order from
the channel after the pointer, the pointer's own channel last. -/
def searchOrder (p : Policy) (pointer : ChannelId) : List ChannelId :=
  match p with
  | .fixed => channelIds
  | .rotate => channelIds.map fun i => pointer + 1 + i

/-- The winner of a grant decision with its class: the lowest class with a PENDING channel, then the first of the class's
search order (R55). -/
def State.winner (s : State) : Option (ClassId × ChannelId) :=
  (List.finRange 4).findSome? fun k =>
    ((searchOrder s.arbiter.policies[k] s.arbiter.pointers[k]).find? (s.contends k)).map fun c => (k, c)

/-- The grant (R56): the port holder and the ROTATE pointer are written, the winner is MOVING with burst count 0, and a
unit is issued against its head. -/
def State.grant (s : State) (k : ClassId) (c : ChannelId) : State :=
  let pointers := match s.arbiter.policies[k] with
    | .fixed => s.arbiter.pointers
    | .rotate => s.arbiter.pointers.set k c
  let held : State := { s with arbiter := { s.arbiter with holder := some c, pointers := pointers } }
  (held.updChannel c fun ch => { ch with state := .moving, burst := 0 }).issue c

/-- The grant decision, taken when the port is free, the run state is RUN and some channel is PENDING (R54). -/
def State.grantDecision (s : State) : State :=
  if s.arbiter.holder = none ∧ s.arbiter.run = .run then
    match s.winner with
    | none => s
    | some (k, c) => s.grant k c
  else s

/-! ## Completion of a command -/

/-- A completion writes OUTCOME and the RESULT words and clears busy (R165). -/
def Port.completed (p : Port) (o : OutcomeCode) (r : Words4) : Port :=
  { p with waiting := none, outcome := o, results := r }

/-- Complete the command of a domain's port (R165). -/
def State.complete (s : State) (d : DomainId) (o : OutcomeCode) (r : Words4) : State :=
  s.updPort d fun p => p.completed o r

/-- The state-and-remaining word of a handle, 0 where it is FREE. -/
def State.finalWord (s : State) (h : Handle) : Word := (s.window h).elim 0 stateAndRemaining

/-- A port at the end of a unit: a command that waits on that unit completes DONE with its results (R97). A close or a
MASTER CLEAR completes when no domain awaits a unit, which is judged apart. -/
def Port.atUnitEnd (p : Port) (u : UnitRecord) (final : Word) : Port :=
  match p.waiting with
  | some (.revoke h) => if h = u.window then p.completed .done (words final 0 0 0) else p
  | some (.cut h n) => if h = u.window then p.completed .done (words (field n 0) final 0 0) else p
  | some (.disable c) => if c = u.channel then p.completed .done noResults else p
  | _ => p

/-- Every command that waits on the unit that has ended completes, each at its own port (R97, R174). -/
def State.completeWaiters (s : State) (u : UnitRecord) : State :=
  s.mapPorts fun _ p => p.atUnitEnd u (s.finalWord u.window)

/-! ## The end of a unit -/

/-- The channel counts a completion OK (R80). -/
def Channel.countedOk (ch : Channel) : Channel :=
  { ch with moved := ch.moved + 1, burst := ch.burst + 1, soft := false }

/-- The channel at a bus error or timeout: the soft request is cleared, the counts stay (R80, R81). -/
def Channel.countedFailed (ch : Channel) : Channel := { ch with soft := false }

/-- A yielding channel becomes OFF if a disable is pending, and settles otherwise (R58, R96). -/
def Channel.yielded (ch : Channel) : Channel :=
  if ch.disablePending then { ch with state := .off, disablePending := false } else ch.settled

/-- A yield (R58, R96): the port is free, a LINKED head becomes ACTIVE, the channel settles or becomes OFF, the commands
that wait on the unit complete, and a grant decision follows. -/
def State.yield (s : State) (u : UnitRecord) : State :=
  ((((s.setHolder none).activateHead u.channel).updChannel u.channel Channel.yielded).completeWaiters u).grantDecision

/-- The channel goes on with a further unit under the same grant (R57). `ch` is the channel after the burst count is
raised and the soft request consumed, `w` the window as it stood before the unit was counted. -/
def goesOn (rs : RunState) (ch : Channel) (w : Window) : Bool :=
  ch.mode != .single && decide (ch.burst < ch.burstLimit) && !w.exhausts && rs == .run && !ch.masked &&
    (ch.mode != .demand || ch.line) && !ch.disablePending

/-- A completion OK of a unit of the ACTIVE head (R77 to R80, R57, R58). Where the channel goes on, R76's withdrawal of AKn,
LAST and MBREQ and the next unit's assertion of them are one step, and no state lies between (DESIGN CHOICE, unsafe, log
27). -/
def State.headOk (s : State) (u : UnitRecord) (w : Window) : State :=
  let counted := s.updWindow u.window Window.afterHeadOk
  let unlinked := if w.exhausts && !w.reload then counted.unlink u.channel u.window else counted
  let raised := unlinked.raise? u.window w.okCause
  let s' := raised.updChannel u.channel Channel.countedOk
  if goesOn s'.arbiter.run (s'.channel u.channel) w then s'.issue u.channel else s'.yield u

/-- A completion OK of a unit of a DRAINING window (R80, R94, R96). -/
def State.drainOk (s : State) (u : UnitRecord) (w : Window) : State :=
  let counted := s.updWindow u.window Window.afterDrainOk
  let raised := counted.raise? u.window w.okCause
  (raised.updChannel u.channel Channel.countedOk).yield u

/-- A bus error or a timeout of a unit of the ACTIVE head (R81, R83): the channel is STALLED, or with a disable pending it
yields to OFF with its next head ACTIVE (R42). -/
def State.headFailed (s : State) (u : UnitRecord) (f : Failure) : State :=
  let failed := (s.updWindow u.window (Window.failedWith f)).unlink u.channel u.window
  let raised := failed.raise u.window f.cause
  let s' := raised.updChannel u.channel Channel.countedFailed
  if (s'.channel u.channel).disablePending then s'.yield u
  else
    let stalled := s'.updChannel u.channel fun ch =>
      { ch with state := .stalled, stall := some { window := u.window, cause := f } }
    (stalled.setHolder none).grantDecision

/-- A bus error or a timeout of a unit of a DRAINING window (R95, R96): the channel is not stalled. -/
def State.drainFailed (s : State) (u : UnitRecord) (f : Failure) : State :=
  let failed := s.updWindow u.window (Window.failedWith f)
  let raised := failed.raise u.window f.cause
  (raised.updChannel u.channel Channel.countedFailed).yield u

/-! ## Teardown of domains -/

/-- A range slot that loses `n` homes. -/
def RangeSlot.lessHomes (r : RangeSlot) (n : Nat) : RangeSlot := { r with homes := r.homes - n }

/-- A closing domain's slot is emptied once its homes count is 0 (R152, R154). Domain 0 keeps its slots (R156). -/
def emptyUnused (d : DomainId) (r : RangeSlot) : Option RangeSlot :=
  if d ≠ 0 ∧ r.homes = 0 then none else some r

/-- A window that the start of the teardown of the domains `ds` does not free: one DRAINING already, or the ACTIVE head
whose unit is in flight (R52, R100). -/
def State.keptInTeardown (s : State) (h : Handle) (w : Window) : Bool :=
  w.state == .draining || (w.state == .active && s.inFlight h)

/-- The windows of domain `d` that the start of its teardown frees at once (R27). -/
def State.freedAtOnce (s : State) (d : DomainId) : List Handle :=
  (s.ownedWindows d).filter fun h => (s.window h).any fun w => !s.keptInTeardown h w

/-- A window at the start of the teardown of the domains `ds` (R27, R100). -/
def State.tornWindow (s : State) (ds : DomainId → Bool) (h : Handle) (w : Option Window) : Option Window :=
  match w with
  | none => none
  | some w =>
    if ds w.owner then
      if s.keptInTeardown h w then some { w with state := .draining } else none
    else some w

/-- A channel at the start of the teardown of the domains `ds` (R52; a MOVING one: DEDUCED, unsafe, log 16). -/
def tornChannel (ds : DomainId → Bool) (ch : Channel) : Channel :=
  if ch.owner.any ds then
    if ch.state = .moving then { ch with chain := [], disablePending := false } else ch.released
  else ch

/-- The number of a domain's units in flight: 1 if a channel of the domain is MOVING (R152). -/
def State.unitsOf (s : State) (d : DomainId) : Nat :=
  if channelIds.any fun c => (s.channel c).owner == some d && (s.channel c).state == .moving then 1 else 0

/-- A domain record at the start of its teardown (R152, R156). -/
def State.tornDomain (s : State) (d : DomainId) (x : Domain) : Domain :=
  let freed := s.freedAtOnce d
  { x with
    state := if d = 0 then x.state else .closing
    clearing := true
    held := x.held - freed.length
    slots := Vector.ofFn fun i =>
      match x.slots[i] with
      | none => none
      | some r =>
        emptyUnused d (r.lessHomes (freed.filter fun h => (s.window h).any fun w => w.home == i).length)
    awaited := s.unitsOf d }

/-- A notice record at the start of its domain's teardown (R134 to R136). -/
def tornNotice (d : DomainId) (n : NoticeRecord) : NoticeRecord :=
  if d = 0 then { n with lists := NoticeRecord.reset.lists, service := NoticeRecord.reset.service }
  else NoticeRecord.reset

/-- A port at the start of its domain's teardown: its waiting command is aborted (R172). Aperture 0 is taking the close or
the MASTER CLEAR itself. -/
def tornPort (d : DomainId) (p : Port) : Port :=
  if d ≠ 0 ∧ p.busy then p.completed .aborted noResults else p

/-- The start of the teardown of the domains `ds`, in one change of every block (R27, R52, R100, R134, R152, R156,
R172). -/
def State.beginTeardown (s : State) (ds : DomainId → Bool) : State :=
  { s with
    windows := Vector.ofFn fun h => s.tornWindow ds h (s.window h)
    causes := Vector.ofFn fun h =>
      if (s.window h).any fun w => ds w.owner then 0 else s.pendingCauses h
    channels := Vector.ofFn fun c => tornChannel ds (s.channel c)
    domains := Vector.ofFn fun d => if ds d then s.tornDomain d (s.domain d) else s.domain d
    notices := Vector.ofFn fun d => if ds d then tornNotice d (s.notice d) else s.notice d
    ports := Vector.ofFn fun d => if ds d then tornPort d (s.port d) else s.port d }

/-- The windows that a teardown of the domains `ds` makes FREE in all, a drained one included (R154, R157). -/
def State.tornCount (s : State) (ds : DomainId → Bool) : Nat :=
  (handles.filter fun h => (s.window h).any fun w => ds w.owner).length

/-- No domain awaits a unit (R154, R157). -/
def State.noneAwaited (s : State) : Bool := domainIds.all fun d => (s.domain d).awaited == 0

/-- A domain record when the teardown is complete: domains 1 to 3 are CLOSED and hold nothing (R154), domain 0 stays OPEN
with its quota and slots (R157). -/
def finishedDomain (d : DomainId) (x : Domain) : Domain :=
  if x.clearing then
    if d = 0 then { x with clearing := false }
    else { x with state := .closed, quota := 0, clearing := false }
  else x

/-- The domains under teardown when it completes. -/
def State.finishDomains (s : State) : State := s.mapDomains finishedDomain

/-- The waiting CLOSE DOMAIN or MASTER CLEAR of domain 0 completes DONE (R154, R157). -/
def Port.teardownDone (p : Port) : Port :=
  match p.waiting with
  | some (.close n cs) => p.completed .done (teardownResults n cs)
  | some (.masterClear n cs) => p.completed .done (teardownResults n cs)
  | _ => p

/-- The teardown completes once no domain awaits a unit (R154, R157). -/
def State.finishTeardown (s : State) : State :=
  if s.noneAwaited then s.finishDomains.updPort 0 Port.teardownDone else s

/-- The domain table when the drained window of a torn-down domain becomes FREE (R101, R154). -/
def Domain.lessDrained (x : Domain) (d : DomainId) (i : SlotId) : Domain :=
  { x with
    held := x.held - 1
    slots := x.slots.set i ((x.slots[i]).bind fun r => emptyUnused d (r.lessHomes 1))
    awaited := x.awaited - 1 }

/-- The end of a unit whose window's owner is being torn down, whatever the outcome (R52, R80, R101, R154, R157): the
window is FREE and nothing is counted, the channel is OFF and unowned, the port is free. -/
def State.tornDownEnd (s : State) (u : UnitRecord) (w : Window) : State :=
  let freed := (s.freeWindow u.window w).updDomain w.owner fun x => x.lessDrained w.owner w.home
  let released := (freed.updChannel u.channel Channel.released).setHolder none
  released.finishTeardown.grantDecision

/-- The window's owner is being torn down (R137). -/
def State.ownerClearing (s : State) (w : Window) : Bool := (s.domain w.owner).clearing

/-- The unit in flight ends with a completion OK (R76). Its window is ACTIVE or DRAINING (R67); a unit of any other window
would count nothing, and the channel yield (DESIGN CHOICE, log 15). -/
def State.unitOk (s : State) (u : UnitRecord) : State :=
  let s' := s.setRecord none
  match s.window u.window with
  | none => s'.yield u
  | some w =>
    if s.ownerClearing w then s'.tornDownEnd u w
    else match w.state with
      | .draining => s'.drainOk u w
      | .active => s'.headOk u w
      | _ => s'.yield u

/-- The unit in flight ends with a bus error or a timeout (R76). -/
def State.unitFailed (s : State) (u : UnitRecord) (f : Failure) : State :=
  let s' := s.setRecord none
  match s.window u.window with
  | none => s'.yield u
  | some w =>
    if s.ownerClearing w then s'.tornDownEnd u w
    else match w.state with
      | .draining => s'.drainFailed u f
      | .active => s'.headFailed u f
      | _ => s'.yield u

/-- A completion that is no unit's: it clears the stale cycle flag and does nothing else (R75, R84). -/
def State.discardCompletion (s : State) : State := s.setStale false

/-! ## The lease tick -/

/-- The channel of a window whose lease runs out: STALLED, its head gone, everything else kept (R109). -/
def Channel.expiredHead (ch : Channel) (h : Handle) : Channel :=
  { ch with
    state := .stalled
    chain := ch.chain.filter fun x => x != h
    stall := some { window := h, cause := .expired } }

/-- The channel is ARMED or PENDING (R106). -/
def Channel.waitsForService (ch : Channel) : Bool := ch.state == .armed || ch.state == .pending

/-- The windows whose lease runs out at a tick: those it counts whose lease remaining is not 2 or more (R107; a counted lease
of 0: DESIGN CHOICE, log 15). -/
def State.expires (s : State) (h : Handle) : Bool :=
  s.leaseCounts h && (s.window h).any fun w => decide (w.lease ≤ 1)

/-- The windows that the lease countdown makes FAILED, among the handles `hs`, become so in one change with their channels,
and their EXPIRED causes are raised in the order of `hs` (R107, R109). -/
def State.expire (s : State) (hs : List Handle) : State :=
  let failed := s.mapWindows fun h w =>
    if hs.contains h then w.map fun x => { Window.failedWith .expired x with lease := 0 } else w
  let stalled := failed.mapChannels fun _ ch =>
    match ch.chain with
    | [] => ch
    | h :: _ => if hs.contains h && ch.waitsForService then ch.expiredHead h else ch
  hs.foldl (fun t h => t.raise h .expired) stalled

/-- The lease countdown of one tick (R106, R107): every window that counts is judged on the state as it stands, those with
2 or more left fall by 1, and the others expire in ascending order of handle. -/
def State.countdown (s : State) : State :=
  let lowered := s.mapWindows fun h w =>
    if s.leaseCounts h && !s.expires h then w.map fun x => { x with lease := x.lease - 1 } else w
  lowered.expire (handles.filter s.expires)

/-- The unit in flight times out (R83): the stale cycle flag is set if its cycle is open, and the unit ends. -/
def State.timeout (s : State) (u : UnitRecord) : State :=
  (if u.phase = .busCycle then s.setStale true else s).unitFailed u .unitTimeout

/-- The unit in flight ages at a tick: a bus unit, with a unit limit in force (R82). -/
def State.ages (s : State) (u : UnitRecord) : Bool := u.direction != .check && s.clock.unitLimit != 0

/-- The memory port's share of a tick: the age rises, and a unit that ages to the unit limit times out (R82, R83). -/
def State.ageUnit (s : State) : State :=
  match s.memory.record with
  | none => s
  | some u =>
    if s.ages u then
      if s.clock.unitLimit ≤ u.age + 1 then s.timeout u
      else s.setRecord (some { u with age := u.age + 1 })
    else s

/-- One lease tick (R104): the divider starts again, the window table counts the leases and expires, then the memory port
ages its unit. -/
def State.tick (s : State) : State :=
  ({ s with clock := { s.clock with divider := 0 } } : State).countdown.ageUnit

/-- One CLK period: while the exponent is 8 to 24 the divider counts, and delivers a tick when it has counted 2 to the
power of the exponent (R104). While RESETN is asserted CLK does not advance it (R179). -/
def State.clkPeriod (s : State) : State :=
  if s.resetAsserted ∨ s.clock.exponent = 0 then s
  else if 2 ^ s.clock.exponent ≤ s.clock.divider + 1 then s.tick
  else { s with clock := { s.clock with divider := s.clock.divider + 1 } }

/-! ## Taking a command word -/

/-- What a command's own block answers: DONE with its results, a refusal that changes nothing, or a command that waits on
the unit in flight (R162, R165, R167). -/
inductive Completion where
  | done (s : State) (results : Words4)
  | refused (code : OutcomeCode)
  | waits (s : State) (waiting : Waiting)

/-- A COMMAND write that is accepted: the command word and the parameters taken (R161). -/
def State.accept (s : State) (d : DomainId) (w : Word) : State :=
  s.updPort d fun p => { p with commandWord := w, taken := p.params }

/-- The parameters taken at acceptance (R159). -/
def State.taken (s : State) (d : DomainId) : Words4 := (s.port d).taken

/-- The completion of an accepted command in the change that takes it, or the start of its wait (R162, R165). `s` is the
state at acceptance. -/
def Completion.apply (x : Completion) (s : State) (d : DomainId) : State :=
  match x with
  | .done t r => t.complete d .done r
  | .refused o => s.complete d o noResults
  | .waits t wt => t.updPort d fun p => { p with waiting := some wt }

/-- A write to COMMAND of aperture `d` (R161, R162): discarded with OVERRUN while the port is busy; otherwise accepted, and
completed CLOSED if the domain is not OPEN, or else taken by `body`, the checks and the effect of the command. -/
def State.commandWrite (s : State) (d : DomainId) (w : Word) (body : DomainId → BitVec 8 → State → Completion) : State :=
  if (s.port d).busy then s.updPort d fun p => { p with overrun := true }
  else
    let a := s.accept d w
    if (a.domain d).state = .opened then (body d (targetField w) a).apply a d
    else a.complete d .closed noResults

/-- A write access that reaches an aperture is taken there; any other changes nothing (R158). While RESETN is asserted no
access reaches an aperture (R179). -/
def State.hostWrite (s : State) (a : Access) (taken : DomainId → State) : State :=
  if s.resetAsserted then s
  else match apertureOf a with
    | none => s
    | some d => taken d

/-- A read access (R158): at one aperture it returns the register's word and has the register's effect; with several chip
selects it returns 0 and has no effect; any other, both strobes with several chip selects among them (DEDUCED, log 10), and
every one while RESETN is asserted, is no read (R179). -/
def State.hostRead (s : State) (a : Access) (register : BitVec 4) (effect : DomainId → State) : State :=
  if s.resetAsserted then s
  else match apertureOf a with
    | some d => { effect d with readData := s.readRegister d register }
    | none => if severalSelected a then { s with readData := 0 } else s

end Sys2Proof.Machine
end

