-- ==== Sys2Proof/Machine/Events.lean ====
section
/-! DEFINITION. The events on the lines: request events (R29), the memory bus (R71, R73, R75), the lease tick and its two
shares (R83, R104, R109), and RESETN (R179). -/

namespace Sys2Proof.Machine

/-- While RESETN stays asserted the part takes no event (R179). -/
def State.unlessReset (s : State) (taken : State) : State := if s.resetAsserted then s else taken

/-! ## Request lines -/

/-- The level standing on an RQ pin. -/
def State.setPin (s : State) (c : ChannelId) (b : Bool) : State := { s with rq := s.rq.set c b }

/-- A request event at a channel (R29): the new level is recorded in every state; an assertion sets starved on an IDLE
channel, and ARMED and PENDING follow the effective request. -/
def Channel.requestEvent (ch : Channel) (b : Bool) : Channel :=
  let recorded := { ch with line := b }
  if ch.state = .idle then { recorded with starved := ch.starved || b } else recorded.followRequest

/-- The line of a channel goes to a level. A line that stands at the level already makes no change of level and so no event
(R29, R32; DEDUCED, unsafe, log 11); while RESETN is asserted the pin moves and no event is taken (R179). -/
def State.requestLine (s : State) (c : ChannelId) (b : Bool) : State :=
  if s.resetAsserted then s.setPin c b
  else if (s.channel c).line = b then s.setPin c b
  else ((s.setPin c b).updChannel c fun ch => ch.requestEvent b).grantDecision

/-- REQUEST_ASSERTION. -/
def execRequestAssertion (c : ChannelId) (s : State) : Host.Outcome State Fault Refusal :=
  .next (s.requestLine c true)

/-- REQUEST_WITHDRAWAL. -/
def execRequestWithdrawal (c : ChannelId) (s : State) : Host.Outcome State Fault Refusal :=
  .next (s.requestLine c false)

/-! ## The memory bus -/

/-- The unit waits for the bus with MBREQ asserted (R71). -/
def State.wantsBus (s : State) (u : UnitRecord) : Bool :=
  u.direction != .check && u.phase == .busWait && !s.memory.stale

/-- MBGNT opens the cycle of a unit that waits for it, and is not used in any other condition (R71). -/
def State.busGrant (s : State) : State :=
  match s.memory.record with
  | none => s
  | some u => if s.wantsBus u then s.setRecord (some { u with phase := .busCycle }) else s

/-- MBGNT. -/
def execMbgnt (s : State) : Host.Outcome State Fault Refusal := .next (s.unlessReset s.busGrant)

/-- MDONE or MERR: in BUS-CYCLE it ends the unit, and in any other condition it is discarded (R75). No cycle is open under a
set stale cycle flag; there R75 is followed (DESIGN CHOICE, log 15). -/
def State.completionTaken (s : State) (ended : UnitRecord → State) : State :=
  match s.memory.record with
  | none => s.discardCompletion
  | some u => if u.phase = .busCycle then ended u else s.discardCompletion

/-- MDONE (R75, R77). -/
def execMdone (s : State) : Host.Outcome State Fault Refusal := .next (s.unlessReset (s.completionTaken s.unitOk))

/-- MERR (R75, R81). -/
def execMerr (s : State) : Host.Outcome State Fault Refusal :=
  .next (s.unlessReset (s.completionTaken fun u => s.unitFailed u .busError))

/-- The end of the strobe of a CHECK unit is its completion OK (R73). With no unit in STROBE there is no
strobe to end, and the state stays as it is (DESIGN CHOICE, safe, log 24). -/
def State.strobeEnd (s : State) : State :=
  match s.memory.record with
  | none => s
  | some u => if u.phase = .strobe then s.unitOk u else s

/-- STROBE_END. -/
def execStrobeEnd (s : State) : Host.Outcome State Fault Refusal := .next (s.unlessReset s.strobeEnd)

/-! ## The lease tick -/

/-- A lease tick is delivered: none while RESETN is asserted or the exponent is 0 (R104, R179). -/
def State.tickDelivered (s : State) : Bool := !s.resetAsserted && s.clock.exponent != 0

/-- LEASE_TICK: the divider completes its count (R104), at any value it stands at (DEDUCED, safe, log 5). -/
def execLeaseTick (s : State) : Host.Outcome State Fault Refusal := .next (if s.tickDelivered then s.tick else s)

/-- LEASE_EXPIRY: the share of a lease tick in which the lease of this window runs out (R109; DEDUCED, unsafe, log 3). A
window whose lease a tick would not bring to 0 does not expire. -/
def execLeaseExpiry (h : Handle) (s : State) : Host.Outcome State Fault Refusal :=
  .next (if s.tickDelivered ∧ s.expires h then s.expire [h] else s)

/-- A tick would time the unit in flight out (R82, R83). -/
def State.timesOut (s : State) (u : UnitRecord) : Bool := s.ages u && decide (s.clock.unitLimit ≤ u.age + 1)

/-- The unit in flight times out if a tick would bring its age to the unit limit (R83). -/
def State.unitTimeout (s : State) : State :=
  match s.memory.record with
  | none => s
  | some u => if s.timesOut u then s.timeout u else s

/-- UNIT_TIMEOUT: the share of a lease tick in which the unit in flight times out (R83; DEDUCED, unsafe, log 4). -/
def execUnitTimeout (s : State) : Host.Outcome State Fault Refusal :=
  .next (if s.tickDelivered then s.unitTimeout else s)

/-! ## RESETN -/

/-- Every block at its reset values, RESETN asserted (R179). The pins stand where they stand, and the queue of commands
outside the part is not the part's (DESIGN CHOICE, unsafe, logs 12 and 21). -/
def State.hardwareReset (s : State) : State :=
  { State.reset with rq := s.rq, resetAsserted := true, pending := s.pending }

/-- HARDWARE_RESET. -/
def execHardwareReset (s : State) : Host.Outcome State Fault Refusal := .next s.hardwareReset

/-- RESETN is withdrawn: each channel records the level of RQn then standing, and events are taken from then on (R50,
R179). -/
def State.resetRelease (s : State) : State :=
  { s.mapChannels (fun c ch => { ch with line := s.rq[c] }) with resetAsserted := false }

/-- RESET_RELEASE: there is no such event while RESETN is not asserted (DESIGN CHOICE, safe, log 12). -/
def execResetRelease (s : State) : Host.Outcome State Fault Refusal :=
  .next (if s.resetAsserted then s.resetRelease else s)

end Sys2Proof.Machine
end

