-- ==== Sys2Proof/Machine/DomainCommands.lean ====
section
/-! DEFINITION. The supervisor commands on domains, ranges and channel ownership, with CLOSE DOMAIN and MASTER CLEAR
(08_domains_ranges_and_quotas.md). -/

namespace Sys2Proof.Machine

/-- A supervisor command is refused PRIVILEGE from domains 1 to 3 (R139). -/
def supervisor (d : DomainId) (k : Completion) : Completion := if d = 0 then k else .refused .privilege

/-- A domain named by a target field: BAD-HANDLE for 4 or more (R164). -/
def onDomain (target : BitVec 8) (k : DomainId → Completion) : Completion :=
  match index? 4 target.toNat with
  | none => .refused .badHandle
  | some x => k x

/-- A range slot named by bits 7:0 of a word: BAD-HANDLE for 4 or more (R164). -/
def onSlot (w : Word) (k : SlotId → Completion) : Completion :=
  match index? 4 (bits w 0 8) with
  | none => .refused .badHandle
  | some i => k i

/-- OPEN DOMAIN (R144). -/
def openDomain (d : DomainId) (target : BitVec 8) (s : State) : Completion :=
  supervisor d <| onDomain target fun x =>
    let quota := bits (s.taken d)[0] 0 8
    if Config.maxQuota < quota then .refused .badValue
    else if x = 0 ∨ (s.domain x).state ≠ .closed then .refused .state
    else .done (s.updDomain x fun y => { y with state := .opened, quota := quota })
      (words (field x.val 0 ||| field quota 8) 0 0 0)

/-- OPEN_DOMAIN. -/
def execOpenDomain (a : Access) (target : BitVec 8) (upper : BitVec 16) (s : State) : Host.Outcome State Fault Refusal :=
  .next (s.hostWrite a fun d => s.commandWrite d (commandWord 0x40 target upper) openDomain)

/-- A command that tears domains down: it completes in the change that starts it when no unit is awaited, and waits
otherwise (R152, R154, R157). -/
def State.tearDown (s : State) (ds : DomainId → Bool) (waiting : Nat → ChannelSet → Waiting) : Completion :=
  let begun := s.beginTeardown ds
  let freed := s.tornCount ds
  let channels := s.channelSet ds
  if begun.noneAwaited then .done begun.finishDomains (teardownResults freed channels)
  else .waits begun (waiting freed channels)

/-- CLOSE DOMAIN (R152 to R154). -/
def closeDomain (d : DomainId) (target : BitVec 8) (s : State) : Completion :=
  supervisor d <| onDomain target fun x =>
    if x = 0 ∨ (s.domain x).state ≠ .opened then .refused .state
    else s.tearDown (fun y => y == x) .close

/-- CLOSE_DOMAIN. -/
def execCloseDomain (a : Access) (target : BitVec 8) (upper : BitVec 16) (s : State) : Host.Outcome State Fault Refusal :=
  .next (s.hostWrite a fun d => s.commandWrite d (commandWord 0x41 target upper) closeDomain)

/-- SET QUOTA (R145). -/
def setQuota (d : DomainId) (target : BitVec 8) (s : State) : Completion :=
  supervisor d <| onDomain target fun x =>
    let quota := bits (s.taken d)[0] 0 8
    if Config.maxQuota < quota then .refused .badValue
    else if (s.domain x).state ≠ .opened then .refused .state
    else if quota < (s.domain x).held then .refused .quota
    else .done (s.updDomain x fun y => { y with quota := quota })
      (words (field quota 8 ||| field (s.domain x).held 16) 0 0 0)

/-- SET_QUOTA. -/
def execSetQuota (a : Access) (target : BitVec 8) (upper : BitVec 16) (s : State) : Host.Outcome State Fault Refusal :=
  .next (s.hostWrite a fun d => s.commandWrite d (commandWord 0x42 target upper) setQuota)

/-- A slot in use: a live window names it as its home range (R142). -/
def slotInUse (r : Option RangeSlot) : Bool := r.any fun x => decide (0 < x.homes)

/-- The range slot that SET RANGE puts in place (R146). -/
def newSlot (p : Words4) : RangeSlot where
  first := (p[1]).toNat
  last := (p[2]).toNat
  read := bit p[0] 8
  write := bit p[0] 9
  homes := 0

/-- SET RANGE (R146). -/
def setRange (d : DomainId) (target : BitVec 8) (s : State) : Completion :=
  supervisor d <| onDomain target fun x => onSlot (s.taken d)[0] fun i =>
    let r := newSlot (s.taken d)
    if pagesAccepted r.first r.last = false then .refused .badValue
    else if (s.domain x).state ≠ .opened then .refused .state
    else if slotInUse (s.domain x).slots[i] then .refused .inUse
    else .done (s.updDomain x fun y => { y with slots := y.slots.set i (some r) })
      (words (slotWord i r) (field r.first 0) (field r.last 0) 0)

/-- SET_RANGE. -/
def execSetRange (a : Access) (target : BitVec 8) (upper : BitVec 16) (s : State) : Host.Outcome State Fault Refusal :=
  .next (s.hostWrite a fun d => s.commandWrite d (commandWord 0x43 target upper) setRange)

/-- CLEAR RANGE (R147). -/
def clearRange (d : DomainId) (target : BitVec 8) (s : State) : Completion :=
  supervisor d <| onDomain target fun x => onSlot (s.taken d)[0] fun i =>
    if (s.domain x).state ≠ .opened then .refused .state
    else if slotInUse (s.domain x).slots[i] then .refused .inUse
    else .done (s.updDomain x fun y => { y with slots := y.slots.set i none }) noResults

/-- CLEAR_RANGE. -/
def execClearRange (a : Access) (target : BitVec 8) (upper : BitVec 16) (s : State) : Host.Outcome State Fault Refusal :=
  .next (s.hostWrite a fun d => s.commandWrite d (commandWord 0x44 target upper) clearRange)

/-- ASSIGN CHANNEL (R149). -/
def assignChannel (d : DomainId) (target : BitVec 8) (s : State) : Completion :=
  supervisor d <|
    match index? 12 target.toNat, index? 4 (bits (s.taken d)[0] 0 8) with
    | some c, some x =>
      if (s.domain x).state ≠ .opened then .refused .state
      else if (s.channel c).owner ≠ none then .refused .inUse
      else .done (s.updChannel c fun ch => { ch with owner := some x }) noResults
    | _, _ => .refused .badHandle

/-- ASSIGN_CHANNEL. -/
def execAssignChannel (a : Access) (target : BitVec 8) (upper : BitVec 16) (s : State) : Host.Outcome State Fault Refusal :=
  .next (s.hostWrite a fun d => s.commandWrite d (commandWord 0x45 target upper) assignChannel)

/-- UNASSIGN CHANNEL (R51, R150). -/
def unassignChannel (d : DomainId) (target : BitVec 8) (s : State) : Completion :=
  supervisor d <|
    match index? 12 target.toNat with
    | none => .refused .badHandle
    | some c =>
      match (s.channel c).owner with
      | none => .refused .state
      | some x =>
        if (s.channel c).state ≠ .off ∨ (s.channel c).chain ≠ [] then .refused .inUse
        else .done (s.updChannel c Channel.released) (words (field x.val 0) 0 0 0)

/-- UNASSIGN_CHANNEL. -/
def execUnassignChannel (a : Access) (target : BitVec 8) (upper : BitVec 16) (s : State) : Host.Outcome State Fault Refusal :=
  .next (s.hostWrite a fun d => s.commandWrite d (commandWord 0x46 target upper) unassignChannel)

/-- READ DOMAIN (R139, R151): a domain may read itself, and domain 0 any domain. -/
def readDomain (d : DomainId) (target : BitVec 8) (s : State) : Completion :=
  if d ≠ 0 ∧ target.toNat ≠ d.val then .refused .privilege
  else onDomain target fun x => onSlot (s.taken d)[0] fun i => .done s (domainResults s x i)

/-- READ_DOMAIN. -/
def execReadDomain (a : Access) (target : BitVec 8) (upper : BitVec 16) (s : State) : Host.Outcome State Fault Refusal :=
  .next (s.hostWrite a fun d => s.commandWrite d (commandWord 0x4B target upper) readDomain)

/-- The domains a MASTER CLEAR tears down: domain 0 and every domain that is OPEN (R156). -/
def State.clearedByMaster (s : State) (d : DomainId) : Bool := d == 0 || (s.domain d).state == .opened

/-- MASTER CLEAR (R156, R157): the run state becomes RUN in the same change (R66). -/
def masterClear (d : DomainId) (_target : BitVec 8) (s : State) : Completion :=
  supervisor d <|
    let running : State := { s with arbiter := { s.arbiter with run := .run } }
    running.tearDown s.clearedByMaster .masterClear

/-- MASTER_CLEAR. -/
def execMasterClear (a : Access) (target : BitVec 8) (upper : BitVec 16) (s : State) : Host.Outcome State Fault Refusal :=
  .next (s.hostWrite a fun d => s.commandWrite d (commandWord 0x4F target upper) masterClear)

end Sys2Proof.Machine
end

