-- ==== Sys2Proof/Machine/ArbiterCommands.lean ====
section
/-! DEFINITION. The supervisor commands of the arbiter and of the lease clock: SET, PAUSE and RUN ARBITER
(03_arbitration.md) and SET CLOCK (06_leases_and_the_lease_clock.md). -/

namespace Sys2Proof.Machine

/-- SET ARBITER (R64). -/
def setArbiter (d : DomainId) (_target : BitVec 8) (s : State) : Completion :=
  supervisor d <|
    match decodePolicies (s.taken d)[0] with
    | none => .refused .badValue
    | some ps =>
      let s' : State := { s with arbiter := { s.arbiter with policies := ps } }
      .done s' (arbiterResults s'.arbiter)

/-- SET_ARBITER. -/
def execSetArbiter (a : Access) (target : BitVec 8) (upper : BitVec 16) (s : State) : Host.Outcome State Fault Refusal :=
  .next (s.hostWrite a fun d => s.commandWrite d (commandWord 0x47 target upper) setArbiter)

/-- PAUSE ARBITER (R62, R63). -/
def pauseArbiter (d : DomainId) (_target : BitVec 8) (s : State) : Completion :=
  supervisor d <|
    let s' : State := { s with arbiter := { s.arbiter with run := .paused } }
    .done s' (arbiterResults s'.arbiter)

/-- PAUSE_ARBITER. -/
def execPauseArbiter (a : Access) (target : BitVec 8) (upper : BitVec 16) (s : State) : Host.Outcome State Fault Refusal :=
  .next (s.hostWrite a fun d => s.commandWrite d (commandWord 0x48 target upper) pauseArbiter)

/-- RUN ARBITER (R62, R63): a grant decision is taken in the same change, and the results show the arbiter after it, with
the holder that this decision has made (DESIGN CHOICE, unsafe, log 26). -/
def runArbiter (d : DomainId) (_target : BitVec 8) (s : State) : Completion :=
  supervisor d <|
    let s' : State := ({ s with arbiter := { s.arbiter with run := .run } } : State).grantDecision
    .done s' (arbiterResults s'.arbiter)

/-- RUN_ARBITER. -/
def execRunArbiter (a : Access) (target : BitVec 8) (upper : BitVec 16) (s : State) : Host.Outcome State Fault Refusal :=
  .next (s.hostWrite a fun d => s.commandWrite d (commandWord 0x49 target upper) runArbiter)

/-- The clock after an accepted SET CLOCK (R103): the divider runs on when a running exponent is given again, and is at 0
otherwise. -/
def Clock.setTo (k : Clock) (exponent unitLimit : Nat) : Clock where
  exponent := exponent
  unitLimit := unitLimit
  divider := if exponent ≠ 0 ∧ exponent = k.exponent then k.divider else 0

/-- SET CLOCK (R103). -/
def setClock (d : DomainId) (_target : BitVec 8) (s : State) : Completion :=
  supervisor d <|
    let exponent := bits (s.taken d)[0] 0 8
    let unitLimit := bits (s.taken d)[0] 8 8
    if clockAccepted exponent unitLimit = false then .refused .badValue
    else
      let s' : State := { s with clock := s.clock.setTo exponent unitLimit }
      .done s' (words (clockWord s'.clock) 0 0 0)

/-- SET_CLOCK. -/
def execSetClock (a : Access) (target : BitVec 8) (upper : BitVec 16) (s : State) : Host.Outcome State Fault Refusal :=
  .next (s.hostWrite a fun d => s.commandWrite d (commandWord 0x4A target upper) setClock)

end Sys2Proof.Machine
end

