-- ==== Sys2Proof/Machine/ChannelCommands.lean ====
section
/-! DEFINITION. The channel commands: ENABLE, DISABLE, MASK, UNMASK, SET, RESUME, PULSE and READ CHANNEL, and CUT CHAIN
(02_channels_and_chains.md). -/

namespace Sys2Proof.Machine

/-- A channel command of domain `d`: BAD-HANDLE for a channel of 12 or more, NOT-OWNER unless `d` owns the channel, then
the command's own checks and effect (R28, R140). -/
def State.onChannel (s : State) (d : DomainId) (target : BitVec 8) (k : ChannelId → Completion) : Completion :=
  match index? 12 target.toNat with
  | none => .refused .badHandle
  | some c => if (s.channel c).owner = some d then k c else .refused .notOwner

/-- ENABLE CHANNEL (R40). -/
def enableChannel (d : DomainId) (target : BitVec 8) (s : State) : Completion :=
  s.onChannel d target fun c =>
    if (s.channel c).state ≠ .off then .refused .state
    else .done (s.updChannel c Channel.settled).grantDecision noResults

/-- ENABLE_CHANNEL. -/
def execEnableChannel (a : Access) (target : BitVec 8) (upper : BitVec 16) (s : State) : Host.Outcome State Fault Refusal :=
  .next (s.hostWrite a fun d => s.commandWrite d (commandWord 0x20 target upper) enableChannel)

/-- DISABLE CHANNEL (R41, R42). In every state it clears the soft request. -/
def disableChannel (d : DomainId) (target : BitVec 8) (s : State) : Completion :=
  s.onChannel d target fun c =>
    match (s.channel c).state with
    | .off => .refused .state
    | .moving =>
      .waits (s.updChannel c fun ch => { ch with soft := false, disablePending := true }) (.disable c)
    | .stalled =>
      .done ((s.updChannel c fun ch => { ch with state := .off, soft := false, stall := none }).activateHead c) noResults
    | .idle | .armed | .pending =>
      .done (s.updChannel c fun ch => { ch with state := .off, soft := false }) noResults

/-- DISABLE_CHANNEL. -/
def execDisableChannel (a : Access) (target : BitVec 8) (upper : BitVec 16) (s : State) : Host.Outcome State Fault Refusal :=
  .next (s.hostWrite a fun d => s.commandWrite d (commandWord 0x21 target upper) disableChannel)

/-- The masked flag written, with its effect on ARMED and PENDING (R43). -/
def Channel.withMask (ch : Channel) (b : Bool) : Channel :=
  if ch.masked = b then ch else ({ ch with masked := b } : Channel).followRequest

/-- MASK CHANNEL (R43). -/
def maskChannel (d : DomainId) (target : BitVec 8) (s : State) : Completion :=
  s.onChannel d target fun c => .done (s.updChannel c fun ch => ch.withMask true) noResults

/-- MASK_CHANNEL. -/
def execMaskChannel (a : Access) (target : BitVec 8) (upper : BitVec 16) (s : State) : Host.Outcome State Fault Refusal :=
  .next (s.hostWrite a fun d => s.commandWrite d (commandWord 0x22 target upper) maskChannel)

/-- UNMASK CHANNEL (R43, R54). -/
def unmaskChannel (d : DomainId) (target : BitVec 8) (s : State) : Completion :=
  s.onChannel d target fun c => .done (s.updChannel c fun ch => ch.withMask false).grantDecision noResults

/-- UNMASK_CHANNEL. -/
def execUnmaskChannel (a : Access) (target : BitVec 8) (upper : BitVec 16) (s : State) : Host.Outcome State Fault Refusal :=
  .next (s.hostWrite a fun d => s.commandWrite d (commandWord 0x23 target upper) unmaskChannel)

/-- SET CHANNEL (R44). -/
def setChannel (d : DomainId) (target : BitVec 8) (s : State) : Completion :=
  s.onChannel d target fun c =>
    match decodeChannelSetting (s.taken d)[0] with
    | none => .refused .badValue
    | some x =>
      if (s.channel c).state ≠ .off then .refused .state
      else .done
        (s.updChannel c fun ch => { ch with mode := x.mode, cls := x.cls, burstLimit := x.burstLimit }) noResults

/-- SET_CHANNEL. -/
def execSetChannel (a : Access) (target : BitVec 8) (upper : BitVec 16) (s : State) : Host.Outcome State Fault Refusal :=
  .next (s.hostWrite a fun d => s.commandWrite d (commandWord 0x24 target upper) setChannel)

/-! ## CUT CHAIN -/

/-- A window of a cut chain: LINKED and ACTIVE become PARKED, but for the ACTIVE head whose unit is in flight, which is
DRAINING and keeps its channel field (R45). -/
def State.cutWindow (s : State) (h : Handle) (w : Window) : Window :=
  match w.state with
  | .linked => w.parkedOff
  | .active => if s.inFlight h then { w with state := .draining } else w.parkedOff
  | _ => w

/-- The channel after a cut (R45): the chain is empty, the stall and the soft request are cleared, and ARMED, PENDING and
STALLED become IDLE. -/
def Channel.cut (ch : Channel) : Channel :=
  let bare := { ch with chain := [], stall := none, soft := false }
  match ch.state with
  | .armed | .pending | .stalled => bare.toIdle
  | .off | .idle | .moving => bare

/-- Every window leaves the chain of a channel in one change (R45). -/
def State.cutChainOf (s : State) (c : ChannelId) : State :=
  (s.mapWindows fun h w =>
    if (s.channel c).chain.contains h then w.map (s.cutWindow h) else w).updChannel c Channel.cut

/-- The head of the chain is ACTIVE and its unit is in flight (R46). -/
def State.headInFlight (s : State) (c : ChannelId) : Option Handle :=
  match (s.channel c).chain with
  | [] => none
  | h :: _ => if (s.window h).any fun w => w.state == .active && s.inFlight h then some h else none

/-- CUT CHAIN (R45, R46). -/
def cutChain (d : DomainId) (target : BitVec 8) (s : State) : Completion :=
  s.onChannel d target fun c =>
    let removed := (s.channel c).chain.length
    match s.headInFlight c with
    | some h => .waits (s.cutChainOf c) (.cut h removed)
    | none => .done (s.cutChainOf c) (words (field removed 0) 0 0 0)

/-- CUT_CHAIN. -/
def execCutChain (a : Access) (target : BitVec 8) (upper : BitVec 16) (s : State) : Host.Outcome State Fault Refusal :=
  .next (s.hostWrite a fun d => s.commandWrite d (commandWord 0x25 target upper) cutChain)

/-! ## RESUME, PULSE and READ CHANNEL -/

/-- RESUME CHANNEL (R47). -/
def resumeChannel (d : DomainId) (target : BitVec 8) (s : State) : Completion :=
  s.onChannel d target fun c =>
    if (s.channel c).state ≠ .stalled then .refused .state
    else .done
      ((((s.updChannel c fun ch => { ch with stall := none }).activateHead c).updChannel c
        Channel.settled).grantDecision) noResults

/-- RESUME_CHANNEL. -/
def execResumeChannel (a : Access) (target : BitVec 8) (upper : BitVec 16) (s : State) : Host.Outcome State Fault Refusal :=
  .next (s.hostWrite a fun d => s.commandWrite d (commandWord 0x26 target upper) resumeChannel)

/-- PULSE CHANNEL (R31, R48). Refused STATE on a MOVING channel, as R48, R56 and R61 say; R34 names it among the commands that
change a MOVING channel's fields (DESIGN CHOICE, unsafe, log 23). -/
def pulseChannel (d : DomainId) (target : BitVec 8) (s : State) : Completion :=
  s.onChannel d target fun c =>
    match (s.channel c).state with
    | .armed | .pending =>
      .done (s.updChannel c fun ch => { ch with state := .pending, soft := true }).grantDecision noResults
    | .off | .idle | .moving | .stalled => .refused .state

/-- PULSE_CHANNEL. -/
def execPulseChannel (a : Access) (target : BitVec 8) (upper : BitVec 16) (s : State) : Host.Outcome State Fault Refusal :=
  .next (s.hostWrite a fun d => s.commandWrite d (commandWord 0x27 target upper) pulseChannel)

/-- READ CHANNEL (R49): domain 0 may read any channel, owned or not; the read clears starved. -/
def readChannel (d : DomainId) (target : BitVec 8) (s : State) : Completion :=
  match index? 12 target.toNat with
  | none => .refused .badHandle
  | some c =>
    if d ≠ 0 ∧ (s.channel c).owner ≠ some d then .refused .notOwner
    else .done (s.updChannel c fun ch => { ch with starved := false }) (channelResults (s.channel c))

/-- READ_CHANNEL. -/
def execReadChannel (a : Access) (target : BitVec 8) (upper : BitVec 16) (s : State) : Host.Outcome State Fault Refusal :=
  .next (s.hostWrite a fun d => s.commandWrite d (commandWord 0x28 target upper) readChannel)

end Sys2Proof.Machine
end

