-- ==== Sys2Proof/Machine/WindowCommands.lean ====
section
/-! DEFINITION. The window commands: OPEN, RELEASE, BIND, REVOKE, REWIND, AMEND, TOUCH and READ WINDOW (01_windows.md,
02_channels_and_chains.md, 05_revocation_and_draining.md, 06_leases_and_the_lease_clock.md). Each command's checks stand
in the order of R163. -/

namespace Sys2Proof.Machine

/-- The live window that a target field names, with its handle: none for a handle of 64 or more or a FREE one (R164). -/
def State.liveWindow (s : State) (target : BitVec 8) : Option (Handle × Window) :=
  match index? 64 target.toNat with
  | none => none
  | some h => (s.window h).map fun w => (h, w)

/-! ## OPEN WINDOW -/

/-- The page of a byte address (R3). -/
def pageOf (a : Int) : Nat := a.toNat / Config.pageBytes

/-- A range slot qualifies for a window: it contains the extent and holds the right the direction needs (R3). -/
def RangeSlot.qualifies (r : RangeSlot) (x : Setting) : Bool :=
  decide (r.first ≤ pageOf x.lowest) && decide (pageOf x.highest ≤ r.last) &&
    match x.direction with
    | .inbound => r.write
    | .outbound => r.read
    | .check => true

/-- The home range: the lowest-numbered slot of the domain that qualifies (R3, R14). -/
def State.homeFor (s : State) (d : DomainId) (x : Setting) : Option SlotId :=
  (List.finRange 4).find? fun i => ((s.domain d).slots[i]).any fun r => r.qualifies x

/-- The lowest-numbered FREE handle (R15). -/
def State.freeHandle (s : State) : Option Handle := handles.find? fun h => (s.window h).isNone

/-- The record that OPEN WINDOW sets (R16). -/
def openedWindow (d : DomainId) (i : SlotId) (x : Setting) : Window where
  state := .parked
  owner := d
  home := i
  base := x.base
  size := x.size
  step := x.step
  direction := x.direction
  count := x.count
  reload := x.reload
  remaining := x.count
  address := x.base
  laps := 0
  channel := none
  level := x.notify.level
  onSpent := x.notify.onSpent
  onLap := x.notify.onLap
  leaseLimit := x.notify.leaseLimit
  lease := x.notify.leaseLimit
  fault := none
  tag := x.notify.tag

/-- One window more of a domain, homed in a slot (R16, R142, R143). -/
def Domain.oneMore (x : Domain) (i : SlotId) : Domain :=
  { x with
    held := x.held + 1
    slots := x.slots.set i ((x.slots[i]).map fun r => { r with homes := r.homes + 1 }) }

/-- OPEN WINDOW (R12 to R16). -/
def openWindow (d : DomainId) (_target : BitVec 8) (s : State) : Completion :=
  match decodeSetting (s.taken d) with
  | none => .refused .badValue
  | some x =>
    if x.inSpace = false then .refused .badValue
    else if x.aligned = false then .refused .align
    else match s.homeFor d x with
      | none => .refused .range
      | some i =>
        if (s.domain d).quota ≤ (s.domain d).held then .refused .quota
        else match s.freeHandle with
          | none => .refused .full
          | some h =>
            .done ((s.setWindow h (some (openedWindow d i x))).updDomain d fun y => y.oneMore i)
              (words (field h.val 0) 0 0 0)

/-- OPEN_WINDOW. -/
def execOpenWindow (a : Access) (target : BitVec 8) (upper : BitVec 16) (s : State) : Host.Outcome State Fault Refusal :=
  .next (s.hostWrite a fun d => s.commandWrite d (commandWord 0x10 target upper) openWindow)

/-! ## RELEASE WINDOW -/

/-- One window fewer of a domain, homed in a slot (R17, R142, R143). -/
def Domain.oneFewer (x : Domain) (i : SlotId) : Domain :=
  { x with
    held := x.held - 1
    slots := x.slots.set i ((x.slots[i]).map fun r => r.lessHomes 1) }

/-- The window stands on a chain or drains: LINKED, ACTIVE or DRAINING (R17, R19). -/
def WindowState.engaged : WindowState → Bool
  | .linked | .active | .draining => true
  | .parked | .spent | .failed => false

/-- RELEASE WINDOW (R17). -/
def releaseWindow (d : DomainId) (target : BitVec 8) (s : State) : Completion :=
  match s.liveWindow target with
  | none => .refused .badHandle
  | some (h, w) =>
    if w.owner ≠ d then .refused .notOwner
    else if w.state.engaged then .refused .state
    else if s.inService h then .refused .noticeHeld
    else .done ((s.freeWindow h w).updDomain d fun y => y.oneFewer w.home) noResults

/-- RELEASE_WINDOW. -/
def execReleaseWindow (a : Access) (target : BitVec 8) (upper : BitVec 16) (s : State) : Host.Outcome State Fault Refusal :=
  .next (s.hostWrite a fun d => s.commandWrite d (commandWord 0x11 target upper) releaseWindow)

/-! ## BIND WINDOW -/

/-- A window bound to this channel becomes ACTIVE at once: the chain is empty, and the channel is neither STALLED nor
carrying a unit of a DRAINING window (R39). -/
def Channel.bindsActive (ch : Channel) : Bool :=
  ch.chain.isEmpty && ch.state != .stalled && ch.state != .moving

/-- The window after its bind to a channel (R39). -/
def Window.bound (w : Window) (c : ChannelId) (active : Bool) : Window :=
  if active then { w.renewed with state := .active, channel := some c }
  else { w with state := .linked, channel := some c }

/-- The channel after a bind: the window at its tail, starved cleared, and an IDLE channel settled (R32, R33, R39). -/
def Channel.withBound (ch : Channel) (h : Handle) : Channel :=
  let longer := { ch with chain := ch.chain ++ [h], starved := false }
  if ch.state = .idle then longer.settled else longer

/-- BIND WINDOW (R38, R39). Refused STATE on a FAILED window until it is rewound, as R38, R11's tables, R20 and R109 say; R112
counts it among the commands that an expiry makes acceptable (DESIGN CHOICE, unsafe, log 25). -/
def bindWindow (d : DomainId) (target : BitVec 8) (s : State) : Completion :=
  match s.liveWindow target, index? 12 (bits (s.taken d)[0] 0 8) with
  | some (h, w), some c =>
    if w.owner ≠ d ∨ (s.channel c).owner ≠ some d then .refused .notOwner
    else if w.state ≠ .parked then .refused .state
    else
      let active := (s.channel c).bindsActive
      .done
        (((s.setWindow h (some (w.bound c active))).updChannel c fun ch => ch.withBound h).grantDecision)
        (words (chainWord (if active then .active else .linked) ((s.channel c).chain.length + 1)) 0 0 0)
  | _, _ => .refused .badHandle

/-- BIND_WINDOW. -/
def execBindWindow (a : Access) (target : BitVec 8) (upper : BitVec 16) (s : State) : Host.Outcome State Fault Refusal :=
  .next (s.hostWrite a fun d => s.commandWrite d (commandWord 0x12 target upper) bindWindow)

/-! ## REVOKE WINDOW -/

/-- The revoke is the supervisor override: domain 0 on another domain's window (R92). -/
def isOverride (d : DomainId) (w : Window) : Bool := d == 0 && w.owner != 0

/-- An IDLE, ARMED or PENDING channel settles when a revoke changes its chain (R33, R89). -/
def Channel.settledIfWaiting (ch : Channel) : Channel :=
  match ch.state with
  | .idle | .armed | .pending => ch.settled
  | .off | .moving | .stalled => ch

/-- Raise OVERRIDE for an override (R92). -/
def State.raiseOverride (s : State) (d : DomainId) (h : Handle) (w : Window) : State :=
  if isOverride d w then s.raise h .override else s

/-- A LINKED window leaves its chain and becomes PARKED (R88): no head is activated and no channel settles. -/
def State.revokeLinked (s : State) (h : Handle) (c : ChannelId) : State :=
  (s.updWindow h Window.parkedOff).unlink c h

/-- An ACTIVE head with no unit of it in flight becomes PARKED, the window behind it ACTIVE, and a waiting channel settles
(R89). -/
def State.revokeActive (s : State) (h : Handle) (c : ChannelId) : State :=
  ((s.revokeLinked h c).activateHead c).updChannel c Channel.settledIfWaiting

/-- The ACTIVE head whose unit is in flight is detached and DRAINING; the window behind it is a LINKED head (R90). -/
def State.startDrain (s : State) (h : Handle) (c : ChannelId) : State :=
  (s.updWindow h fun w => { w with state := .draining }).unlink c h

/-- REVOKE WINDOW (R87 to R92). A LINKED or ACTIVE window always has a channel; without one it is refused (DESIGN CHOICE, log
15). -/
def revokeWindow (d : DomainId) (target : BitVec 8) (s : State) : Completion :=
  match s.liveWindow target with
  | none => .refused .badHandle
  | some (h, w) =>
    if w.owner ≠ d ∧ d ≠ 0 then .refused .notOwner
    else match w.state, w.channel with
      | .linked, some c =>
        .done ((s.revokeLinked h c).raiseOverride d h w) (words (stateAndRemaining w.parkedOff) 0 0 0)
      | .active, some c =>
        if s.inFlight h then .waits ((s.startDrain h c).raiseOverride d h w) (.revoke h)
        else .done ((s.revokeActive h c).raiseOverride d h w) (words (stateAndRemaining w.parkedOff) 0 0 0)
      | _, _ => .refused .state

/-- REVOKE_WINDOW. -/
def execRevokeWindow (a : Access) (target : BitVec 8) (upper : BitVec 16) (s : State) : Host.Outcome State Fault Refusal :=
  .next (s.hostWrite a fun d => s.commandWrite d (commandWord 0x13 target upper) revokeWindow)

/-! ## REWIND WINDOW -/

/-- The window after a rewind (R19). -/
def Window.rewound (w : Window) : Window :=
  { w with state := .parked, address := w.base, remaining := w.count, laps := 0, fault := none }

/-- REWIND WINDOW (R19). -/
def rewindWindow (d : DomainId) (target : BitVec 8) (s : State) : Completion :=
  match s.liveWindow target with
  | none => .refused .badHandle
  | some (h, w) =>
    if w.owner ≠ d then .refused .notOwner
    else if w.state.engaged then .refused .state
    else .done (s.setWindow h (some w.rewound)) noResults

/-- REWIND_WINDOW. -/
def execRewindWindow (a : Access) (target : BitVec 8) (upper : BitVec 16) (s : State) : Host.Outcome State Fault Refusal :=
  .next (s.hostWrite a fun d => s.commandWrite d (commandWord 0x14 target upper) rewindWindow)

/-! ## AMEND WINDOW -/

/-- The window after an amend: the five fields replaced and the lease renewed (R21, R24). -/
def Window.amended (w : Window) (x : Notify) : Window :=
  { w with
    tag := x.tag
    level := x.level
    onSpent := x.onSpent
    onLap := x.onLap
    leaseLimit := x.leaseLimit
    lease := x.leaseLimit }

/-- The notice state of a window at an amend of its level (R22): a pending window moves to the tail of the new level's
list, or with NONE its causes are discarded; nothing happens with the level unchanged or no cause pending. -/
def State.moveNotice (s : State) (h : Handle) (w : Window) (level : Option Level) : State :=
  if w.level = level ∨ s.pendingCauses h = 0 then s
  else match w.level, level with
    | some l, some l' => (s.leaveList w.owner l h).joinList w.owner l' h
    | some l, none => (s.leaveList w.owner l h).setCauses h 0
    | none, _ => s

/-- AMEND WINDOW (R21 to R24). -/
def amendWindow (d : DomainId) (target : BitVec 8) (s : State) : Completion :=
  match s.liveWindow target with
  | none => .refused .badHandle
  | some (h, w) =>
    if w.owner ≠ d then .refused .notOwner
    else match decodeNotify (s.taken d)[0] (s.taken d)[1] with
      | none => .refused .badValue
      | some x =>
        if x.level ≠ w.level ∧ s.inService h then .refused .noticeHeld
        else .done ((s.moveNotice h w x.level).setWindow h (some (w.amended x))) noResults

/-- AMEND_WINDOW. -/
def execAmendWindow (a : Access) (target : BitVec 8) (upper : BitVec 16) (s : State) : Host.Outcome State Fault Refusal :=
  .next (s.hostWrite a fun d => s.commandWrite d (commandWord 0x15 target upper) amendWindow)

/-! ## TOUCH WINDOW -/

/-- TOUCH WINDOW (R110). -/
def touchWindow (d : DomainId) (target : BitVec 8) (s : State) : Completion :=
  match s.liveWindow target with
  | none => .refused .badHandle
  | some (h, w) =>
    if w.owner ≠ d then .refused .notOwner
    else .done (s.setWindow h (some w.renewed)) (words (leaseWord w.renewed) 0 0 0)

/-- TOUCH_WINDOW. -/
def execTouchWindow (a : Access) (target : BitVec 8) (upper : BitVec 16) (s : State) : Host.Outcome State Fault Refusal :=
  .next (s.hostWrite a fun d => s.commandWrite d (commandWord 0x16 target upper) touchWindow)

/-! ## READ WINDOW -/

/-- READ WINDOW (R25). -/
def readWindow (d : DomainId) (target : BitVec 8) (s : State) : Completion :=
  match s.liveWindow target with
  | none => .refused .badHandle
  | some (h, w) =>
    if w.owner ≠ d ∧ d ≠ 0 then .refused .notOwner
    else match bits (s.taken d)[0] 0 8 with
      | 0 => .done s (windowPart0 w)
      | 1 => .done s (windowPart1 s h w)
      | _ => .refused .badValue

/-- READ_WINDOW. -/
def execReadWindow (a : Access) (target : BitVec 8) (upper : BitVec 16) (s : State) : Host.Outcome State Fault Refusal :=
  .next (s.hostWrite a fun d => s.commandWrite d (commandWord 0x17 target upper) readWindow)

end Sys2Proof.Machine
end

