-- ==== Sys2Proof/Machine/NoticeCommands.lean ====
section
/-! DEFINITION. The notice commands RETIRE NOTICE, RETIRE TOP and SET NOTICES, and the ACKNOWLEDGE read (07_notices.md). -/

namespace Sys2Proof.Machine

/-- An in-service entry is removed (R127): the window is no longer in service, and its delivered causes are cleared. -/
def State.retire (s : State) (d : DomainId) (l : Level) : State := s.updNotice d fun n => n.setEntry l none

/-- RETIRE NOTICE (R127). -/
def retireNotice (d : DomainId) (target : BitVec 8) (s : State) : Completion :=
  match s.liveWindow target with
  | none => .refused .badHandle
  | some (h, w) =>
    if w.owner ≠ d then .refused .notOwner
    else match (s.notice d).entryOf h with
      | none => .refused .state
      | some (l, e) => .done (s.retire d l) (words (retireWord l e) 0 0 0)

/-- RETIRE_NOTICE. -/
def execRetireNotice (a : Access) (target : BitVec 8) (upper : BitVec 16) (s : State) : Host.Outcome State Fault Refusal :=
  .next (s.hostWrite a fun d => s.commandWrite d (commandWord 0x30 target upper) retireNotice)

/-- The entry at the most urgent level that holds one (R128). -/
def NoticeRecord.top (n : NoticeRecord) : Option (Level × NoticeEntry) :=
  levels.findSome? fun l => (n.service[l]).map fun e => (l, e)

/-- RETIRE TOP (R128). -/
def retireTop (d : DomainId) (_target : BitVec 8) (s : State) : Completion :=
  match (s.notice d).top with
  | none => .refused .state
  | some (l, e) => .done (s.retire d l) (words (retireWord l e) 0 0 0)

/-- RETIRE_TOP. -/
def execRetireTop (a : Access) (target : BitVec 8) (upper : BitVec 16) (s : State) : Host.Outcome State Fault Refusal :=
  .next (s.hostWrite a fun d => s.commandWrite d (commandWord 0x31 target upper) retireTop)

/-- SET NOTICES (R130): the results show the setup and the NOTE line as they stand after the command. -/
def setNotices (d : DomainId) (_target : BitVec 8) (s : State) : Completion :=
  match decodeNoticeSetup (s.taken d)[0] with
  | none => .refused .badValue
  | some x =>
    let s' := s.updNotice d fun n => { n with mask := x.mask, mode := x.mode, autoRetire := x.autoRetire }
    .done s' (words (setupWord s' d) 0 0 0)

/-- SET_NOTICES. -/
def execSetNotices (a : Access) (target : BitVec 8) (upper : BitVec 16) (s : State) : Host.Outcome State Fault Refusal :=
  .next (s.hostWrite a fun d => s.commandWrite d (commandWord 0x32 target upper) setNotices)

/-! ## The ACKNOWLEDGE read -/

/-- The delivery of a domain's next notice (R123, R124): the window leaves its list and its pending set is emptied; unless
auto-retire is on, an entry with the delivered causes is made at its level. With no eligible window nothing changes. -/
def State.deliver (s : State) (d : DomainId) : State :=
  match (s.notice d).next with
  | none => s
  | some (l, h) =>
    let left := (s.leaveList d l h).setCauses h 0
    if (s.notice d).autoRetire then left
    else left.updNotice d fun n => n.setEntry l (some { window := h, causes := s.pendingCauses h })

/-- ACKNOWLEDGE: a read of that register returns the notice word and delivers the notice (R123, R171). -/
def execAcknowledge (a : Access) (s : State) : Host.Outcome State Fault Refusal :=
  .next (s.hostRead a 10#4 fun d => s.deliver d)

end Sys2Proof.Machine
end

