-- ==== Sys2Proof/Machine/HostPort.lean ====
section
/-! DEFINITION. The host port's own rows: a COMMAND write of any word, the other register writes, and the STATUS read
(09_the_host_port.md, R158 to R161, R169). -/

namespace Sys2Proof.Machine

/-- A command whose code names no command: UNKNOWN, whatever the target field holds (R163, R175). -/
def unknownCode (_d : DomainId) (_target : BitVec 8) (_s : State) : Completion := .refused .unknown

/-- The checks and the effect of the command that a code names (R162, R175). -/
def bodyOf (code : BitVec 8) : DomainId → BitVec 8 → State → Completion :=
  match code.toNat with
  | 0x10 => openWindow
  | 0x11 => releaseWindow
  | 0x12 => bindWindow
  | 0x13 => revokeWindow
  | 0x14 => rewindWindow
  | 0x15 => amendWindow
  | 0x16 => touchWindow
  | 0x17 => readWindow
  | 0x20 => enableChannel
  | 0x21 => disableChannel
  | 0x22 => maskChannel
  | 0x23 => unmaskChannel
  | 0x24 => setChannel
  | 0x25 => cutChain
  | 0x26 => resumeChannel
  | 0x27 => pulseChannel
  | 0x28 => readChannel
  | 0x30 => retireNotice
  | 0x31 => retireTop
  | 0x32 => setNotices
  | 0x40 => openDomain
  | 0x41 => closeDomain
  | 0x42 => setQuota
  | 0x43 => setRange
  | 0x44 => clearRange
  | 0x45 => assignChannel
  | 0x46 => unassignChannel
  | 0x47 => setArbiter
  | 0x48 => pauseArbiter
  | 0x49 => runArbiter
  | 0x4A => setClock
  | 0x4B => readDomain
  | 0x4F => masterClear
  | _ => unknownCode

/-- A write of any word to COMMAND of aperture `d`, taken as R161 gives and then by the word's code (R162). -/
def State.commandWordWrite (s : State) (d : DomainId) (w : Word) : State := s.commandWrite d w (bodyOf (codeField w))

/-- UNKNOWN_COMMAND: a COMMAND write of this word. Its row's words are those whose code is not listed (R163; DEDUCED, safe,
log 7). -/
def execUnknownCommand (a : Access) (w : Word) (s : State) : Host.Outcome State Fault Refusal :=
  .next (s.hostWrite a fun d => s.commandWordWrite d w)

/-- DISCARDED_WRITE: a COMMAND write of this word. It is discarded when the port is busy (R161; DEDUCED, safe, log 7). -/
def execDiscardedWrite (a : Access) (w : Word) (s : State) : Host.Outcome State Fault Refusal :=
  .next (s.hostWrite a fun d => s.commandWordWrite d w)

/-- A write to the register at offset 4 × `register` (R158, R160): PARAM words are stored, COMMAND takes the word, every
other register ignores it. -/
def State.registerWrite (s : State) (d : DomainId) (register : BitVec 4) (v : Word) : State :=
  match register.toNat with
  | 0 => s.commandWordWrite d v
  | 1 => s.updPort d fun p => { p with params := p.params.set 0 v }
  | 2 => s.updPort d fun p => { p with params := p.params.set 1 v }
  | 3 => s.updPort d fun p => { p with params := p.params.set 2 v }
  | 4 => s.updPort d fun p => { p with params := p.params.set 3 v }
  | _ => s

/-- REGISTER_WRITE. -/
def execRegisterWrite (a : Access) (register : BitVec 4) (v : Word) (s : State) : Host.Outcome State Fault Refusal :=
  .next (s.hostWrite a fun d => s.registerWrite d register v)

/-- STATUS_READ: a read of STATUS returns its word and clears OVERRUN (R169). -/
def execStatusRead (a : Access) (s : State) : Host.Outcome State Fault Refusal :=
  .next (s.hostRead a 9#4 fun d => s.updPort d fun p => { p with overrun := false })

end Sys2Proof.Machine
end

