-- ==== Sys2Proof/Machine/Dispatch.lean ====
section
/-! DEFINITION. The meaning of every command: one arm per row of spec/opcode_table.json. -/

namespace Sys2Proof.Machine

def exec (i : Instr) (s : State) : Host.Outcome State Fault Refusal :=
  match i with
  | .openWindow a t u => Sys2Proof.Machine.execOpenWindow a t u s
  | .releaseWindow a t u => Sys2Proof.Machine.execReleaseWindow a t u s
  | .bindWindow a t u => Sys2Proof.Machine.execBindWindow a t u s
  | .revokeWindow a t u => Sys2Proof.Machine.execRevokeWindow a t u s
  | .rewindWindow a t u => Sys2Proof.Machine.execRewindWindow a t u s
  | .amendWindow a t u => Sys2Proof.Machine.execAmendWindow a t u s
  | .touchWindow a t u => Sys2Proof.Machine.execTouchWindow a t u s
  | .readWindow a t u => Sys2Proof.Machine.execReadWindow a t u s
  | .enableChannel a t u => Sys2Proof.Machine.execEnableChannel a t u s
  | .disableChannel a t u => Sys2Proof.Machine.execDisableChannel a t u s
  | .maskChannel a t u => Sys2Proof.Machine.execMaskChannel a t u s
  | .unmaskChannel a t u => Sys2Proof.Machine.execUnmaskChannel a t u s
  | .setChannel a t u => Sys2Proof.Machine.execSetChannel a t u s
  | .cutChain a t u => Sys2Proof.Machine.execCutChain a t u s
  | .resumeChannel a t u => Sys2Proof.Machine.execResumeChannel a t u s
  | .pulseChannel a t u => Sys2Proof.Machine.execPulseChannel a t u s
  | .readChannel a t u => Sys2Proof.Machine.execReadChannel a t u s
  | .retireNotice a t u => Sys2Proof.Machine.execRetireNotice a t u s
  | .retireTop a t u => Sys2Proof.Machine.execRetireTop a t u s
  | .setNotices a t u => Sys2Proof.Machine.execSetNotices a t u s
  | .openDomain a t u => Sys2Proof.Machine.execOpenDomain a t u s
  | .closeDomain a t u => Sys2Proof.Machine.execCloseDomain a t u s
  | .setQuota a t u => Sys2Proof.Machine.execSetQuota a t u s
  | .setRange a t u => Sys2Proof.Machine.execSetRange a t u s
  | .clearRange a t u => Sys2Proof.Machine.execClearRange a t u s
  | .assignChannel a t u => Sys2Proof.Machine.execAssignChannel a t u s
  | .unassignChannel a t u => Sys2Proof.Machine.execUnassignChannel a t u s
  | .setArbiter a t u => Sys2Proof.Machine.execSetArbiter a t u s
  | .pauseArbiter a t u => Sys2Proof.Machine.execPauseArbiter a t u s
  | .runArbiter a t u => Sys2Proof.Machine.execRunArbiter a t u s
  | .setClock a t u => Sys2Proof.Machine.execSetClock a t u s
  | .readDomain a t u => Sys2Proof.Machine.execReadDomain a t u s
  | .masterClear a t u => Sys2Proof.Machine.execMasterClear a t u s
  | .unknownCommand a w => Sys2Proof.Machine.execUnknownCommand a w s
  | .discardedWrite a w => Sys2Proof.Machine.execDiscardedWrite a w s
  | .registerWrite a r v => Sys2Proof.Machine.execRegisterWrite a r v s
  | .statusRead a => Sys2Proof.Machine.execStatusRead a s
  | .acknowledge a => Sys2Proof.Machine.execAcknowledge a s
  | .requestAssertion c => Sys2Proof.Machine.execRequestAssertion c s
  | .requestWithdrawal c => Sys2Proof.Machine.execRequestWithdrawal c s
  | .mbgnt => Sys2Proof.Machine.execMbgnt s
  | .mdone => Sys2Proof.Machine.execMdone s
  | .merr => Sys2Proof.Machine.execMerr s
  | .strobeEnd => Sys2Proof.Machine.execStrobeEnd s
  | .leaseTick => Sys2Proof.Machine.execLeaseTick s
  | .leaseExpiry h => Sys2Proof.Machine.execLeaseExpiry h s
  | .unitTimeout => Sys2Proof.Machine.execUnitTimeout s
  | .hardwareReset => Sys2Proof.Machine.execHardwareReset s
  | .resetRelease => Sys2Proof.Machine.execResetRelease s

end Sys2Proof.Machine
end

