-- ==== Sys2Proof/Safety.lean ====
section
/-! DEFINITION. What the spec says of every state of the part: the agreements that each rule claims "at every change", as
predicates of one state; and the words in which the statements say what a command changes and what it leaves alone. -/

namespace Sys2Proof.Machine

/-! ## Windows -/

/-- The setting a window was opened with. -/
def Window.setting (w : Window) : Setting where
  base := w.base
  size := w.size
  step := w.step
  direction := w.direction
  count := w.count
  reload := w.reload
  notify := { leaseLimit := w.leaseLimit, level := w.level, onSpent := w.onSpent, onLap := w.onLap, tag := w.tag }

/-- The current address that R4 gives for a remaining, in 32 bits. -/
def Window.addressFor (w : Window) : Address :=
  match w.step with
  | .up => w.base + BitVec.ofNat 32 ((w.count - w.remaining) * w.size.bytes)
  | .down => w.base - BitVec.ofNat 32 ((w.count - w.remaining) * w.size.bytes)
  | .fixed => w.base

/-- What R4, R5, R7, R8, R9, R12 and R13 say of one live window. -/
abbrev WindowSound (w : Window) : Prop :=
  (1 ≤ w.count ∧ w.count ≤ Config.maxCount) ∧
  w.remaining ≤ w.count ∧
  (w.remaining = 0 ↔ w.state = .spent) ∧
  w.address = w.addressFor ∧
  w.laps ≤ Config.maxLaps ∧
  (w.reload = false → w.laps = 0) ∧
  (w.lease ≤ w.leaseLimit ∧ w.leaseLimit ≤ Config.maxLease) ∧
  (w.fault.isSome ↔ w.state = .failed) ∧
  (w.state = .parked ∨ w.state = .spent ∨ w.state = .failed → w.channel = none) ∧
  w.setting.inSpace = true ∧
  w.setting.aligned = true

/-- Every live window is sound, and an ACTIVE one with a lease has some of it left (R7, R107, R108). -/
abbrev WindowsSound (s : State) : Prop :=
  ∀ h : Handle, ∀ w ∈ s.window h, WindowSound w ∧ (w.state = .active → w.leaseLimit ≠ 0 → 1 ≤ w.lease)

/-! ## Held counts, homes counts and home ranges -/

/-- The held count of every domain is the number of its live windows, and the homes count of every slot the number of
those homed in it; no window is homed in an absent slot (R142, R143). -/
abbrev CountsAgree (s : State) : Prop :=
  ∀ d : DomainId, (s.domain d).held = (s.ownedWindows d).length ∧
    ∀ i : SlotId, ((s.domain d).slots[i]).elim 0 (fun r => r.homes) = (s.homedWindows d i).length

/-- Every live window's extent lies inside a present slot of its owner that grants the right its direction needs (R3). -/
abbrev WindowsHomed (s : State) : Prop :=
  ∀ h : Handle, ∀ w ∈ s.window h, ∃ r ∈ (s.domain w.owner).slots[w.home], r.qualifies w.setting = true

/-! ## The port holder -/

/-- A channel is MOVING exactly when it is the port holder, and a unit in flight is the holder's (R53, R67). -/
abbrev HolderMoves (s : State) : Prop :=
  (∀ c : ChannelId, (s.channel c).state = .moving ↔ s.arbiter.holder = some c) ∧
  ∀ u ∈ s.memory.record, s.arbiter.holder = some u.channel

/-! ## Notices -/

/-- The agreement of R119: pending causes only for a live window of a numeric level, which then stands exactly once in the
list of that level in its owner's record; and every in-service entry names a live window of its domain at its level. -/
abbrev NoticesAgree (s : State) : Prop :=
  (∀ h : Handle, s.pendingCauses h ≠ 0 →
    ∃ w ∈ s.window h, ∃ l ∈ w.level, h ∈ (s.notice w.owner).lists[l]) ∧
  (∀ (d : DomainId) (l : Level), ((s.notice d).lists[l]).Nodup ∧
    ∀ h ∈ (s.notice d).lists[l], s.pendingCauses h ≠ 0 ∧ ∃ w ∈ s.window h, w.owner = d ∧ w.level = some l) ∧
  (∀ (d : DomainId) (l : Level), ∀ e ∈ (s.notice d).service[l],
    e.causes ≠ 0 ∧ ∃ w ∈ s.window e.window, w.owner = d ∧ w.level = some l)

/-! ## Clock and ports -/

/-- The lease clock's items and the unit age lie in their ranges (R67, R103, R104). -/
abbrev ClockInRange (s : State) : Prop :=
  (s.clock.exponent = 0 ∨ (Config.minExponent ≤ s.clock.exponent ∧ s.clock.exponent ≤ Config.maxExponent)) ∧
  s.clock.unitLimit ≤ Config.maxUnitLimit ∧
  s.clock.divider < 2 ^ s.clock.exponent ∧
  ∀ u ∈ s.memory.record, u.age ≤ Config.maxUnitLimit

/-- Domain 0 is OPEN (R139), clearing and CLOSING are one for domains 1 to 3 (R137), and a busy port's domain is OPEN
(R161). -/
abbrev PortsAgree (s : State) : Prop :=
  (s.domain 0).state = .opened ∧
  (∀ d : DomainId, d ≠ 0 → ((s.domain d).clearing = true ↔ (s.domain d).state = .closing)) ∧
  ∀ d : DomainId, (s.port d).busy = true → (s.domain d).state = .opened

/-! ## The values of hardware reset -/

/-- A channel at the values of R50, its recorded line apart. -/
abbrev ChannelAtReset (ch : Channel) : Prop :=
  ch.owner = none ∧ ch.state = .off ∧ ch.mode = .single ∧ ch.cls = 3 ∧ ch.burstLimit = 1 ∧ ch.masked = false ∧
    ch.soft = false ∧ ch.starved = false ∧ ch.chain = [] ∧ ch.burst = 0 ∧ ch.moved = 0 ∧ ch.disablePending = false ∧
    ch.stall = none

/-- A notice record at the values of R133. -/
abbrev NoticesAtReset (n : NoticeRecord) : Prop :=
  n.mask = 0 ∧ n.mode = .nested ∧ n.autoRetire = false ∧
    (∀ l : Level, n.lists[l] = []) ∧ ∀ l : Level, n.service[l] = none

/-- A domain that owns and holds nothing (R138, R154). -/
abbrev HoldsNothing (x : Domain) : Prop :=
  x.held = 0 ∧ (∀ i : SlotId, x.slots[i] = none) ∧ x.clearing = false ∧ x.awaited = 0

/-- A port record at the values of R159. -/
abbrev PortAtReset (p : Port) : Prop :=
  p.busy = false ∧ p.commandWord = 0 ∧ (∀ i : Fin 4, p.taken[i] = 0 ∧ p.params[i] = 0 ∧ p.results[i] = 0) ∧
    p.outcome = .done ∧ p.overrun = false

/-- The arbiter at the values of R53. -/
abbrev ArbiterAtReset (a : Arbiter) : Prop :=
  a.run = .run ∧ (∀ k : ClassId, a.policies[k] = .fixed ∧ a.pointers[k] = 11) ∧ a.holder = none

/-- Every block at the values its reset rule gives (R26, R50, R53, R85, R105, R133, R138, R159). -/
abbrev AtResetValues (s : State) : Prop :=
  (∀ h : Handle, s.window h = none ∧ s.pendingCauses h = 0) ∧
  (∀ c : ChannelId, ChannelAtReset (s.channel c)) ∧
  ArbiterAtReset s.arbiter ∧
  (s.memory.record = none ∧ s.memory.stale = false) ∧
  (s.clock.exponent = 0 ∧ s.clock.unitLimit = 0 ∧ s.clock.divider = 0) ∧
  (∀ d : DomainId, NoticesAtReset (s.notice d) ∧ PortAtReset (s.port d) ∧ HoldsNothing (s.domain d)) ∧
  ((s.domain 0).state = .opened ∧ (s.domain 0).quota = 64) ∧
  ∀ d : DomainId, d ≠ 0 → (s.domain d).state = .closed ∧ (s.domain d).quota = 0

/-! ## Chains, channels and the unit in flight -/

/-- LINKED or ACTIVE: the window stands on a chain (R35). -/
def WindowState.onChain : WindowState → Bool
  | .linked | .active => true
  | .parked | .draining | .spent | .failed => false

/-- Every chain holds live LINKED or ACTIVE windows of the channel's owner, each once, and an ACTIVE one only at its head;
every LINKED or ACTIVE window stands on the chain its channel field names (R9, R35). -/
abbrev ChainsAgree (s : State) : Prop :=
  (∀ c : ChannelId, ((s.channel c).chain).Nodup ∧ ∀ h ∈ (s.channel c).chain, ∃ w ∈ s.window h,
    w.state.onChain = true ∧ w.channel = some c ∧ (s.channel c).owner = some w.owner ∧
      (w.state = .active → (s.channel c).chain.head? = some h)) ∧
  (∀ h : Handle, ∀ w ∈ s.window h, w.state.onChain = true → ∃ c ∈ w.channel, h ∈ (s.channel c).chain)

/-- The head of a chain, where there is one, is in this state. -/
abbrev HeadIs (s : State) (c : ChannelId) (st : WindowState) : Prop :=
  ∀ h ∈ (s.channel c).chain.head?, ∃ w ∈ s.window h, w.state = st

/-- What the channel-state table says of each channel (R28, R33, R35, R37). -/
abbrev ChannelSound (s : State) (c : ChannelId) : Prop :=
  ((s.channel c).owner = none → (s.channel c).state = .off ∧ (s.channel c).chain = []) ∧
  ((s.channel c).disablePending = true → (s.channel c).state = .moving) ∧
  ((s.channel c).stall.isSome ↔ (s.channel c).state = .stalled) ∧
  ((s.channel c).state = .off → HeadIs s c .active) ∧
  ((s.channel c).state = .idle → (s.channel c).chain = []) ∧
  ((s.channel c).state = .armed →
    (s.channel c).chain ≠ [] ∧ HeadIs s c .active ∧ (s.channel c).effective = false) ∧
  ((s.channel c).state = .pending →
    (s.channel c).chain ≠ [] ∧ HeadIs s c .active ∧ (s.channel c).effective = true) ∧
  ((s.channel c).state = .stalled → HeadIs s c .linked)

/-- The items of a unit record that are written at issue and held (R67, R68): direction, size and address are the window's,
the lanes follow from address and size (R69), last is yes exactly when the window's remaining is 1 (R74), and the phase is
STROBE exactly for a CHECK unit (R73). -/
abbrev RecordOf (u : UnitRecord) (w : Window) : Prop :=
  u.direction = w.direction ∧ u.size = w.size ∧ u.address = w.address ∧ u.lanes = unitLanes u.address u.size ∧
    (u.last = true ↔ w.remaining = 1) ∧ (u.phase = .strobe ↔ u.direction = .check)

/-- What the unit in flight says of its window and channel (R34, R67, R93): its window is the ACTIVE head of its channel, or
DRAINING with the channel's head LINKED; its record holds what was written at issue; no cycle is open while the stale cycle
flag is set (R71, R84); and every DRAINING window is the unit's. -/
abbrev UnitSound (s : State) : Prop :=
  (s.arbiter.holder.isSome ↔ s.memory.record.isSome) ∧
  (∀ u ∈ s.memory.record, (u.phase = .busCycle → s.memory.stale = false) ∧ ∃ w ∈ s.window u.window,
    w.channel = some u.channel ∧ (s.channel u.channel).owner = some w.owner ∧ RecordOf u w ∧
      ((w.state = .active ∧ (s.channel u.channel).chain.head? = some u.window) ∨
        (w.state = .draining ∧ HeadIs s u.channel .linked))) ∧
  ∀ h : Handle, ∀ w ∈ s.window h, w.state = .draining → s.inFlight h = true

/-- What a teardown in progress says (R52, R137, R153): the windows of a clearing domain are DRAINING, its channels MOVING
with empty chains, and units awaited is the number of those; a domain not clearing awaits none, and only a domain that is
not CLOSED owns a window or a channel; and a clearing domain of 1 to 3 has no present slot without a home, since the
teardown empties a slot as its homes count comes to 0 (R152 to R154). -/
abbrev TeardownSound (s : State) : Prop :=
  (∀ h : Handle, ∀ w ∈ s.window h, (s.domain w.owner).state ≠ .closed ∧
    ((s.domain w.owner).clearing = true → w.state = .draining)) ∧
  (∀ c : ChannelId, ∀ d ∈ (s.channel c).owner, (s.domain d).state ≠ .closed ∧
    ((s.domain d).clearing = true →
      (s.channel c).state = .moving ∧ (s.channel c).chain = [] ∧ (s.channel c).disablePending = false)) ∧
  (∀ d : DomainId, (s.domain d).awaited = if (s.domain d).clearing then s.unitsOf d else 0) ∧
  ∀ d : DomainId, d ≠ 0 → (s.domain d).clearing = true →
    ∀ i : SlotId, ∀ r ∈ (s.domain d).slots[i], 0 < r.homes

/-- What a waiting command of domain `d` holds on to (R90, R46, R42, R97, R167): a revoke or a cut its drained window, whose
unit is in flight, a disable its owner's channel with the disable pending, and a close or a MASTER CLEAR of domain 0 a
domain that awaits a unit. -/
def State.waitHolds (s : State) (d : DomainId) : Waiting → Bool
  | .revoke h => s.inFlight h && (s.window h).any fun w => w.state == .draining && (w.owner == d || d == 0)
  | .cut h _ => s.inFlight h && (s.window h).any fun w => w.state == .draining && w.owner == d
  | .disable c => (s.channel c).disablePending && (s.channel c).owner == some d
  | .close _ _ | .masterClear _ _ => d == 0 && !s.noneAwaited

/-- The port of domain 0 waits in a CLOSE DOMAIN or a MASTER CLEAR. -/
def Port.inTeardown (p : Port) : Bool :=
  p.waiting.any fun x =>
    match x with
    | .close _ _ | .masterClear _ _ => true
    | .revoke _ | .cut _ _ | .disable _ => false

/-- Every waiting command waits on the unit in flight, every pending disable has its owner's command waiting, and every
teardown has domain 0's (R42, R152, R156, R167). -/
abbrev WaitersSound (s : State) : Prop :=
  (∀ d : DomainId, ∀ x ∈ (s.port d).waiting, s.waitHolds d x = true) ∧
  (∀ c : ChannelId, (s.channel c).disablePending = true →
    ∃ d ∈ (s.channel c).owner, (s.port d).waiting = some (.disable c)) ∧
  ∀ d : DomainId, (s.domain d).clearing = true → (s.port 0).inTeardown = true

/-- No domain holds more than its quota, no quota exceeds 64, a CLOSED domain has quota 0 and no range, and the pages of a
present slot are in order and in the address space (R141, R143, R146, R154). -/
abbrev DomainsSound (s : State) : Prop :=
  ∀ d : DomainId, (s.domain d).held ≤ (s.domain d).quota ∧ (s.domain d).quota ≤ Config.maxQuota ∧
    ((s.domain d).state = .closed → (s.domain d).quota = 0 ∧ ∀ i : SlotId, (s.domain d).slots[i] = none) ∧
    ∀ i : SlotId, ∀ r ∈ (s.domain d).slots[i], r.first ≤ r.last ∧ r.last ≤ Config.maxPage

/-- A channel that no domain owns has its reset settings (R50 to R52). -/
abbrev UnownedAtReset (s : State) : Prop :=
  ∀ c : ChannelId, (s.channel c).owner = none → ChannelAtReset (s.channel c)

/-- No grant decision is due: while the port is free and the run state is RUN no channel is PENDING, since the decision is
taken at the event that first makes the three true together (R54). -/
abbrev NoGrantDue (s : State) : Prop :=
  s.arbiter.holder = none → s.arbiter.run = .run → ∀ c : ChannelId, (s.channel c).state ≠ .pending

/-- The whole structure of chains, channels, the port, the waiting commands and the teardown, the grants taken when they are
due, and the reset values held while RESETN is asserted (R179). -/
abbrev StructureSound (s : State) : Prop :=
  PortsAgree s ∧ HolderMoves s ∧ ChainsAgree s ∧ (∀ c : ChannelId, ChannelSound s c) ∧ UnitSound s ∧
    TeardownSound s ∧ WaitersSound s ∧ UnownedAtReset s ∧ NoGrantDue s ∧ (s.resetAsserted = true → AtResetValues s)

/-! ## What a command changes -/

/-- The blocks of the state. -/
inductive Block where
  | windows | causes | channels | domains | notices | ports | arbiter | memory | clock | rq | resetLine | readData | queue
  deriving DecidableEq, Repr

/-- A block is the same in both states. -/
def SameIn (s t : State) : Block → Prop
  | .windows => t.windows = s.windows
  | .causes => t.causes = s.causes
  | .channels => t.channels = s.channels
  | .domains => t.domains = s.domains
  | .notices => t.notices = s.notices
  | .ports => t.ports = s.ports
  | .arbiter => t.arbiter = s.arbiter
  | .memory => t.memory = s.memory
  | .clock => t.clock = s.clock
  | .rq => t.rq = s.rq
  | .resetLine => t.resetAsserted = s.resetAsserted
  | .readData => t.readData = s.readData
  | .queue => t.pending = s.pending

/-- Every block is as it was but those listed: the frame of a command. -/
def Frame (s t : State) (changed : List Block) : Prop := ∀ b : Block, b ∉ changed → SameIn s t b

/-- No window record changes but this one. -/
def OnlyWindow (s t : State) (h : Handle) : Prop := ∀ x : Handle, x ≠ h → t.window x = s.window x

/-- No pending cause set changes but this one. -/
def OnlyCauses (s t : State) (h : Handle) : Prop := ∀ x : Handle, x ≠ h → t.pendingCauses x = s.pendingCauses x

/-- No channel record changes but this one. -/
def OnlyChannel (s t : State) (c : ChannelId) : Prop := ∀ x : ChannelId, x ≠ c → t.channel x = s.channel x

/-- No domain record changes but this one. -/
def OnlyDomain (s t : State) (d : DomainId) : Prop := ∀ x : DomainId, x ≠ d → t.domain x = s.domain x

/-- No notice record changes but this one. -/
def OnlyNotice (s t : State) (d : DomainId) : Prop := ∀ x : DomainId, x ≠ d → t.notice x = s.notice x

/-- No port record changes but this one. -/
def OnlyPort (s t : State) (d : DomainId) : Prop := ∀ x : DomainId, x ≠ d → t.port x = s.port x

/-! ## Commands at an aperture -/

/-- The access reaches aperture `d` (R158, R179). -/
abbrev Reaches (s : State) (a : Access) (d : DomainId) : Prop := s.resetAsserted = false ∧ apertureOf a = some d

/-- The access reaches aperture `d`, whose port is not busy and whose domain is OPEN: a command word written with it is
taken (R161, R162). -/
abbrev Admits (s : State) (a : Access) (d : DomainId) : Prop :=
  Reaches s a d ∧ (s.port d).busy = false ∧ (s.domain d).state = .opened

/-- Aperture `d` accepted the word and completed with this outcome and these results, and no other port changed (R161,
R165, R174). -/
def Answers (s t : State) (d : DomainId) (word : Word) (o : OutcomeCode) (r : Words4) : Prop :=
  t.port d =
    { s.port d with waiting := none, commandWord := word, taken := (s.port d).params, outcome := o, results := r } ∧
  OnlyPort s t d

/-- Aperture `d` accepted the word and is busy with a command that waits, OUTCOME and RESULT unchanged, and no other port
changed (R161, R168). -/
def StartsWait (s t : State) (d : DomainId) (word : Word) (x : Waiting) : Prop :=
  t.port d = { s.port d with waiting := some x, commandWord := word, taken := (s.port d).params } ∧ OnlyPort s t d

/-- The word a host command writes to COMMAND. -/
def wordOf (i : Instr) : Word := (encodeCommandWord i).elim 0 fun p => p.2

/-- The command is refused with this outcome: it completes with all RESULT words zero and changes nothing else (R165). -/
def Refused (s : State) (i : Instr) (d : DomainId) (o : OutcomeCode) : Prop :=
  ∃ t, exec i s = .next t ∧ Answers s t d (wordOf i) o noResults ∧ Frame s t [.ports]

/-! ## What parameter words name -/

/-- A notify word and a tag word name these five fields, field by field from their layouts and each value one that its
field accepts (R12, R21, R177). -/
def NotifyGiven (notify tag : Word) (x : Notify) : Prop :=
  x.leaseLimit = bits notify 0 16 ∧ x.leaseLimit ≤ 4095 ∧ bits notify 16 4 = x.level.elim 8 Fin.val ∧
    x.onSpent = notify.getLsbD 20 ∧ x.onLap = notify.getLsbD 21 ∧ x.tag = tag.extractLsb' 0 16

/-- A notify word names no value in one of its fields: a level code above 8 or a lease limit above 4095 (R12, R21). -/
def NotifyBad (notify : Word) : Prop := 8 < bits notify 16 4 ∨ 4095 < bits notify 0 16

/-- The parameter words of OPEN WINDOW name this setting, field by field from their layouts and each value one that its
field accepts (R2, R12, R177). The extent is judged apart. -/
def SettingGiven (p : Words4) (x : Setting) : Prop :=
  x.base = p[0] ∧ bits p[1] 17 3 = x.size.bytes ∧ bits p[1] 20 2 = x.step.code ∧ bits p[1] 22 2 = x.direction.code ∧
    x.count = bits p[1] 0 17 ∧ 1 ≤ x.count ∧ x.count ≤ 65536 ∧ x.reload = p[1].getLsbD 24 ∧
    NotifyGiven p[2] p[3] x.notify

/-- A parameter word of OPEN WINDOW names no value in one of its fields: a unit size that is not 1, 2 or 4, a step or a
direction code of 3, a count of 0 or above 65536, or a notify word that names none (R12). -/
def SettingBad (p : Words4) : Prop :=
  bits p[1] 17 3 ∉ [1, 2, 4] ∨ bits p[1] 20 2 = 3 ∨ bits p[1] 22 2 = 3 ∨ bits p[1] 0 17 = 0 ∨ 65536 < bits p[1] 0 17 ∨
    NotifyBad p[2]

/-- A slot contains the extent of a window and holds the right its direction needs (R3). -/
def SlotQualifies (r : RangeSlot) (x : Setting) : Prop :=
  r.first ≤ x.lowest.toNat / 4096 ∧ x.highest.toNat / 4096 ≤ r.last ∧
    (x.direction = .inbound → r.write = true) ∧ (x.direction = .outbound → r.read = true)

/-- The lowest-numbered qualifying slot of a domain (R3, R14). -/
def HomeIs (s : State) (d : DomainId) (x : Setting) (i : SlotId) : Prop :=
  (∃ r, (s.domain d).slots[i] = some r ∧ SlotQualifies r x) ∧
  ∀ j : SlotId, j < i → ∀ r, (s.domain d).slots[j] = some r → ¬ SlotQualifies r x

/-- The lowest-numbered FREE handle (R15). -/
def LowestFree (s : State) (h : Handle) : Prop := s.window h = none ∧ ∀ x : Handle, x < h → s.window x ≠ none

/-- OVERRIDE is raised when domain 0 revokes another domain's window (R92). -/
def withOverride (m : State) (d owner : DomainId) (h : Handle) : State :=
  if d = 0 ∧ owner ≠ 0 then m.raise h .override else m

/-- A channel that was not IDLE, settled by the table of R33. -/
def settlesTo (ch : Channel) : Channel :=
  if ch.chain = [] then { ch with state := .idle, soft := false, starved := ch.starved || ch.line }
  else if ch.effective then { ch with state := .pending }
  else { ch with state := .armed }

/-- A window that becomes the head where a LINKED head becomes ACTIVE (R36): its lease is renewed. -/
def asHead (w : Window) : Window :=
  if w.state = .linked then { w with state := .active, lease := w.leaseLimit } else w

/-- The windows of two states agree but for `h` and for the head of `chain`, which has become the ACTIVE head. -/
def HeadActivated (s t : State) (h : Handle) (chain : List Handle) : Prop :=
  ∀ x : Handle, x ≠ h → t.window x = if chain.head? = some x then (s.window x).map asHead else s.window x

/-! ## Layouts -/

/-- The lanes of a unit by the table of R69, for an address aligned to the size as every window's are (R13): from the lane
of the address's remainder by 4, as many lanes as the unit has bytes. -/
def LanesFor (a : Address) (size : UnitSize) (lanes : BitVec 4) : Prop :=
  a.toNat % size.bytes = 0 → ∀ k : Fin 4,
    lanes.getLsbD k.val = decide (a.toNat % 4 ≤ k.val ∧ k.val < a.toNat % 4 + size.bytes)

/-- The results of PAUSE ARBITER, RUN ARBITER and SET ARBITER, field by field from the layouts of the arbiter word and the
pointer word (R63, R178): an absent holder reads 0 with its flag clear. -/
def arbiterLayout (a : Arbiter) : Words4 :=
  words
    (field a.run.code 0 ||| field (a.holder.elim 0 Fin.val) 8 ||| flag a.holder.isSome 12 |||
      field a.policies[0].code 16 ||| field a.policies[1].code 18 ||| field a.policies[2].code 20 |||
      field a.policies[3].code 22)
    (field a.pointers[0].val 0 ||| field a.pointers[1].val 8 ||| field a.pointers[2].val 16 |||
      field a.pointers[3].val 24)
    0 0

/-- The state-and-remaining word of a handle, field by field from its layout; 0 where the handle is FREE (R97, R176). -/
def remainingLayout (s : State) (h : Handle) : Word :=
  (s.window h).elim 0 fun w => field w.state.code 0 ||| field w.remaining 8

/-! ## Notices that may be delivered -/

/-- Windows pending at the level may be delivered (R121): the level is not masked, nothing is in service at it and, in
NESTED mode, nothing at a more urgent one. -/
abbrev LevelOpen (n : NoticeRecord) (l : Level) : Prop :=
  n.mask.getLsbD l.val = false ∧ n.service[l] = none ∧
    (n.mode = .nested → ∀ k : Level, k < l → n.service[k] = none)

/-! ## The start of a teardown -/

/-- What the start of the teardown of the domains `ds` makes of their windows, causes, channels and notice records, and of
the ports of domains 1 to 3; those of the other domains are as they were (R27, R52, R100, R134 to R136, R172). -/
def TeardownBegun (s m : State) (ds : DomainId → Bool) : Prop :=
  (∀ h : Handle, (s.window h = none → m.window h = none) ∧ ∀ w, s.window h = some w →
    m.window h =
      (if ds w.owner = false then some w
       else if w.state = .draining ∨ (w.state = .active ∧ s.inFlight h = true) then some { w with state := .draining }
       else none) ∧
    m.pendingCauses h = if ds w.owner then 0 else s.pendingCauses h) ∧
  (∀ c : ChannelId, ((∀ d, (s.channel c).owner = some d → ds d = false) → m.channel c = s.channel c) ∧
    ∀ d, (s.channel c).owner = some d → ds d = true →
      ((s.channel c).state = .moving → m.channel c = { s.channel c with chain := [], disablePending := false }) ∧
      ((s.channel c).state ≠ .moving → ChannelAtReset (m.channel c) ∧ (m.channel c).line = (s.channel c).line)) ∧
  (∀ d : DomainId, (ds d = false → m.notice d = s.notice d) ∧ (ds d = true → (d ≠ 0 → NoticesAtReset (m.notice d)) ∧
    (∀ l : Level, (m.notice d).lists[l] = [] ∧ (m.notice d).service[l] = none) ∧
    (d = 0 → (m.notice d).mask = (s.notice d).mask ∧ (m.notice d).mode = (s.notice d).mode ∧
      (m.notice d).autoRetire = (s.notice d).autoRetire))) ∧
  ∀ d : DomainId, d ≠ 0 → m.port d =
    if ds d = true ∧ (s.port d).busy = true then
      { s.port d with waiting := none, outcome := .aborted, results := noResults }
    else s.port d

/-- A domain at the start of a teardown that must see a unit of its own end (R153, R156): the window of that unit is its one
live window and is homed in its slot as it stood, with homes count 1; every other slot of a domain of 1 to 3 is absent, and
domain 0 keeps its own, with homes count 0. -/
def AwaitsUnit (s m : State) (d : DomainId) : Prop :=
  (m.domain d).clearing = true ∧ (m.domain d).awaited = 1 ∧ (m.domain d).quota = (s.domain d).quota ∧
  (m.domain d).held = 1 ∧ ∃ u w r, s.memory.record = some u ∧ m.window u.window = some w ∧ w.owner = d ∧
    w.state = .draining ∧ (s.domain d).slots[w.home] = some r ∧
    (m.domain d).slots[w.home] = some { r with homes := 1 } ∧
    ∀ i : SlotId, i ≠ w.home → (m.domain d).slots[i] =
      if d = 0 then (s.domain d).slots[i].map fun x => { x with homes := 0 } else none

/-! ## The end of a unit -/

/-- The event ends the unit in flight, OK or with this failure (R73, R75, R83). No cycle of the unit's is open while the
stale cycle flag is set (R71, R84), as every step keeps it (UnitSound). UNIT_TIMEOUT is the row of log 4. -/
def UnitEnds (s : State) (u : UnitRecord) (i : Instr) (f : Option Failure) : Prop :=
  s.resetAsserted = false ∧ s.memory.record = some u ∧ (u.phase = .busCycle → s.memory.stale = false) ∧
  ((i = .mdone ∧ u.phase = .busCycle ∧ f = none) ∨
   (i = .strobeEnd ∧ u.phase = .strobe ∧ f = none) ∨
   (i = .merr ∧ u.phase = .busCycle ∧ f = some .busError) ∨
   (i = .unitTimeout ∧ u.direction ≠ .check ∧ s.clock.exponent ≠ 0 ∧ s.clock.unitLimit ≠ 0 ∧
     s.clock.unitLimit ≤ u.age + 1 ∧ f = some .unitTimeout))

/-- The stale cycle flag after the end of a unit: set by a timeout in BUS-CYCLE, and kept otherwise (R83). -/
def staleAfter (s : State) (u : UnitRecord) (f : Option Failure) : Bool :=
  if f = some .unitTimeout ∧ u.phase = .busCycle then true else s.memory.stale

/-- A window after a completion OK of its unit, its channel field and a DRAINING window's state apart (R77 to R79). -/
def afterOk (w : Window) : Window :=
  if 1 < w.remaining then { w with remaining := w.remaining - 1, address := w.nextAddress, lease := w.leaseLimit }
  else if w.reload then
    { w with remaining := w.count, address := w.base, laps := min (w.laps + 1) 65535, lease := w.leaseLimit }
  else { w with remaining := 0, address := w.nextAddress, lease := w.leaseLimit, state := .spent }

/-- The cause a completion OK raises, if the level is numeric (R78, R79). -/
def causeOfOk (w : Window) : Option Cause :=
  if 1 < w.remaining then none
  else if w.reload then (if w.onLap then some .lap else none)
  else if w.onSpent then some .spent else none

/-- The conditions of R57, on the channel and the window as they stood before the completion. -/
def continues (a : Arbiter) (ch : Channel) (w : Window) : Prop :=
  ch.mode ≠ .single ∧ ch.burst + 1 < ch.burstLimit ∧ 1 < w.remaining ∧ a.run = .run ∧ ch.masked = false ∧
    (ch.mode = .demand → ch.line = true) ∧ ch.disablePending = false

/-- What the end of a unit makes of a port: a command that waits on that unit completes DONE, and every other port is
untouched (R97). `final` is the drained window's state-and-remaining word. -/
def portAtEnd (p : Port) (u : UnitRecord) (final : Word) : Port :=
  if p.waiting = some (.revoke u.window) then { p with waiting := none, outcome := .done, results := words final 0 0 0 }
  else if p.waiting = some (.disable u.channel) then { p with waiting := none, outcome := .done, results := noResults }
  else match p.waiting with
    | some (.cut h n) =>
      if h = u.window then { p with waiting := none, outcome := .done, results := words (field n 0) final 0 0 } else p
    | _ => p

/-- The causes and the notice records of a state are those a raise leaves of another; with no cause they are its own. -/
def NoticesAfter (s m : State) (h : Handle) (x : Option Cause) : Prop :=
  m.causes = (s.raise? h x).causes ∧ m.notices = (s.raise? h x).notices

/-! ## The lease tick -/

/-- The lease of the window counts at a tick (R106): it is ACTIVE with a lease, and its channel is ARMED or PENDING and not
masked. -/
def LeaseRuns (s : State) (w : Window) : Prop :=
  w.state = .active ∧ w.leaseLimit ≠ 0 ∧ ∃ c, w.channel = some c ∧
    ((s.channel c).state = .armed ∨ (s.channel c).state = .pending) ∧ (s.channel c).masked = false

/-- The lease of the window runs out at a tick (R107). -/
def LeaseRunsOut (s : State) (h : Handle) : Prop := ∃ w, s.window h = some w ∧ LeaseRuns s w ∧ w.lease ≤ 1

/-- A window whose lease has run out (R109). -/
def expiredWindow (w : Window) : Window :=
  { w with state := .failed, channel := none, fault := some .expired, lease := 0 }

/-- A unit ages at a tick (R82): a bus unit, with a unit limit in force. -/
def UnitAges (s : State) (u : UnitRecord) : Prop := u.direction ≠ .check ∧ s.clock.unitLimit ≠ 0

/-- What the lease countdown of one tick makes of a state, the windows of `out` being those whose lease runs out (R106, R107,
R109): the others that count fall by 1, the expired become FAILED and stall their channels, and their EXPIRED causes join
their lists in ascending order of handle. The divider starts again (R104). -/
def CountedDown (s m : State) (out : Handle → Bool) : Prop :=
  (∀ h : Handle, (s.window h = none → m.window h = none) ∧ ∀ w, s.window h = some w →
    (¬ LeaseRuns s w → m.window h = some w) ∧
    (LeaseRuns s w → 2 ≤ w.lease → m.window h = some { w with lease := w.lease - 1 }) ∧
    (LeaseRuns s w → w.lease ≤ 1 → m.window h = some (expiredWindow w)) ∧
    m.pendingCauses h =
      if out h = true ∧ w.level ≠ none then s.pendingCauses h ||| Cause.flag .expired else s.pendingCauses h) ∧
  (∀ c : ChannelId,
    (∀ h, (s.channel c).chain.head? = some h → out h = true →
      ((s.channel c).state = .armed ∨ (s.channel c).state = .pending) →
      m.channel c =
        { s.channel c with
          state := .stalled, chain := (s.channel c).chain.filter fun x => x != h
          stall := some { window := h, cause := .expired } }) ∧
    ((∀ h, (s.channel c).chain.head? = some h → out h = false) → m.channel c = s.channel c)) ∧
  (∀ (d : DomainId) (l : Level), (m.notice d).lists[l] = (s.notice d).lists[l] ++ handles.filter fun h =>
    out h && ((s.window h).any fun w => w.owner == d && w.level == some l) && s.pendingCauses h == 0) ∧
  (∀ d : DomainId, (m.notice d).service = (s.notice d).service ∧ (m.notice d).mask = (s.notice d).mask ∧
    (m.notice d).mode = (s.notice d).mode ∧ (m.notice d).autoRetire = (s.notice d).autoRetire) ∧
  m.clock = { s.clock with divider := 0 } ∧ Frame s m [.windows, .channels, .causes, .notices, .clock]

/-- Every step keeps the property. -/
def KeptByStep (inv : State → Prop) : Prop := ∀ s t : State, inv s → step s = .next t → inv t

end Sys2Proof.Machine
end

