-- ==== Sys2Proof/WellFormed.lean ====
section
/-! DEFINITION. When a command is the row it is labelled with. The types of the operands already bound every number
(a channel is below 12, a handle below 64), so two labels are left to check. The meanings do not depend on this: a
command that fails a check is still the host access its operands describe. -/

namespace Sys2Proof

/-- UNKNOWN_COMMAND carries a word whose code is not listed (R163); REGISTER_WRITE names a register other than
COMMAND, which has rows of its own (R160, R161). -/
def Instr.wellFormed : Instr → Bool
  | .unknownCommand _ w => !listedCode w
  | .registerWrite _ r _ => r != 0#4
  | _ => true

end Sys2Proof
end

