-- ==== Sys2Proof/Certificates/Slice0/Obligations.lean ====
section
/-! DEFINITION. The statements for the provers: what each command does and leaves alone, when it is refused, and what every
step keeps. -/

section

open Sys2Proof Sys2Proof.Machine

/-! ## The machine -/

/-- A step takes the command at the front of the queue and runs its meaning on the state with the queue's rest. -/
def Obligations.QueueFront : Prop :=
  ∀ (s : State) (c : Instr) (rest : List Instr), s.pending = c :: rest →
    step s = exec c { s with pending := rest }

/-- On an empty queue a step is one CLK period (the model's choice, log 2): the divider counts while the exponent is not 0
and RESETN is released, and at 2 to the power of the exponent it delivers the lease tick (R104). -/
def Obligations.IdlePeriod : Prop :=
  ∀ s : State, s.pending = [] →
    (s.resetAsserted = true ∨ s.clock.exponent = 0 → step s = .next s) ∧
    (s.resetAsserted = false → s.clock.exponent ≠ 0 → s.clock.divider + 1 < 2 ^ s.clock.exponent →
      step s = .next { s with clock := { s.clock with divider := s.clock.divider + 1 } }) ∧
    (s.resetAsserted = false → s.clock.exponent ≠ 0 → 2 ^ s.clock.exponent ≤ s.clock.divider + 1 →
      step s = exec .leaseTick s)

/-- The state after hardware reset holds the values of each block's reset rule (R26, R50, R53, R85, R105, R133, R138, R159),
with every request line withdrawn and RESETN released (the model's choice, log 1) and nothing read yet (log 9). -/
def Obligations.ResetState : Prop :=
  AtResetValues State.reset ∧ (∀ c : ChannelId, (State.reset.channel c).line = false ∧ State.reset.rq[c] = false) ∧
    State.reset.resetAsserted = false ∧ State.reset.readData = 0 ∧ State.reset.pending = []

/-- RESETN: its assertion takes every block to its reset values from any state, with every output line withdrawn or not
driven; its withdrawal records the level of each RQn and changes nothing else (R50, R85, R133, R179). A withdrawal of a line
that is not asserted is no event, and the levels on the pins and the queue of commands stand through the assertion (the
model's choices, logs 12 and 21). -/
def Obligations.ResetLine : Prop :=
  (∀ s : State, ∃ t, exec .hardwareReset s = .next t ∧ AtResetValues t ∧ t.resetAsserted = true ∧ t.rq = s.rq ∧
    t.pending = s.pending ∧ (∀ c : ChannelId, t.ak c = false) ∧ t.lastLine = false ∧ t.mbreq = false ∧
    t.ma = none ∧ t.mbe = none ∧ t.mwr = none ∧ ∀ d : DomainId, t.note d = false) ∧
  (∀ s : State, s.resetAsserted = true → ∃ t, exec .resetRelease s = .next t ∧ t.resetAsserted = false ∧
    (∀ c : ChannelId, t.channel c = { s.channel c with line := s.rq[c] }) ∧ Frame s t [.channels, .resetLine]) ∧
  ∀ s : State, s.resetAsserted = false → exec .resetRelease s = .next s

/-- While RESETN stays asserted the part holds its values: a change of level on an RQ pin moves the pin alone, and no other
event, no host access and no CLK period changes anything (R179). That the pin moves alone, and that a step on an empty queue
is a CLK period, are the model's choices (logs 12 and 2). -/
def Obligations.NoEventInReset : Prop :=
  ∀ s : State, s.resetAsserted = true →
    (∀ c : ChannelId, exec (.requestAssertion c) s = .next { s with rq := s.rq.set c true } ∧
      exec (.requestWithdrawal c) s = .next { s with rq := s.rq.set c false }) ∧
    (∀ i : Instr, i ≠ .hardwareReset → i ≠ .resetRelease →
      (∀ c : ChannelId, i ≠ .requestAssertion c ∧ i ≠ .requestWithdrawal c) → exec i s = .next s) ∧
    (s.pending = [] → step s = .next s)

/-! ## Window commands -/

/-- OPEN WINDOW whose words name a setting and that passes its checks takes the lowest-numbered FREE handle and the lowest-numbered qualifying slot, and
sets the record as R16 tabulates; the held count and the slot's homes count rise by 1; nothing else changes. The setting is
read from PARAM0 to PARAM3 field by field (R177). -/
def Obligations.OpenWindow : Prop :=
  ∀ (s : State) (a : Access) (d : DomainId) (tgt : BitVec 8) (up : BitVec 16) (x : Setting) (i : SlotId) (h : Handle),
    Admits s a d → SettingGiven (s.port d).params x → x.inSpace = true → x.aligned = true → HomeIs s d x i →
    (s.domain d).held < (s.domain d).quota → LowestFree s h →
    ∃ t w r, exec (.openWindow a tgt up) s = .next t ∧
      Answers s t d (commandWord 0x10 tgt up) .done (words (field h.val 0) 0 0 0) ∧
      t.window h = some w ∧ w.state = .parked ∧ w.owner = d ∧ w.home = i ∧ w.setting = x ∧ w.remaining = x.count ∧
      w.address = x.base ∧ w.laps = 0 ∧ w.channel = none ∧ w.lease = x.notify.leaseLimit ∧ w.fault = none ∧
      OnlyWindow s t h ∧ (s.domain d).slots[i] = some r ∧
      t.domain d =
        { s.domain d with
          held := (s.domain d).held + 1, slots := (s.domain d).slots.set i (some { r with homes := r.homes + 1 }) } ∧
      OnlyDomain s t d ∧ Frame s t [.windows, .domains, .ports] ∧
      (NoticesAgree s → t.pendingCauses h = 0 ∧ t.inService h = false)

/-- OPEN WINDOW is refused with the first of BAD-VALUE, ALIGN, RANGE, QUOTA and FULL that fails, and a refusal changes
nothing. BAD-VALUE is for a unit size that is not 1, 2 or 4, a step or a direction code of 3, a count of 0 or above 65536, a
level code above 8, a lease limit above 4095, and an extent that leaves the address space (R2, R12 to R15, R163, R177). -/
def Obligations.OpenWindowRefused : Prop :=
  ∀ (s : State) (a : Access) (d : DomainId) (tgt : BitVec 8) (up : BitVec 16), Admits s a d →
    (SettingBad (s.port d).params → Refused s (.openWindow a tgt up) d .badValue) ∧
    ∀ x, SettingGiven (s.port d).params x →
      (x.inSpace = false → Refused s (.openWindow a tgt up) d .badValue) ∧
      (x.inSpace = true → x.aligned = false → Refused s (.openWindow a tgt up) d .align) ∧
      (x.inSpace = true → x.aligned = true →
        (∀ (i : SlotId) (r : RangeSlot), (s.domain d).slots[i] = some r → ¬ SlotQualifies r x) →
        Refused s (.openWindow a tgt up) d .range) ∧
      ∀ i, x.inSpace = true → x.aligned = true → HomeIs s d x i →
        ((s.domain d).quota ≤ (s.domain d).held → Refused s (.openWindow a tgt up) d .quota) ∧
        ((s.domain d).held < (s.domain d).quota → (∀ h : Handle, s.window h ≠ none) →
          Refused s (.openWindow a tgt up) d .full)

/-- RELEASE WINDOW frees a PARKED, SPENT or FAILED window that is not in service: its pending causes are discarded, it leaves
its list, and the held count and its slot's homes count fall by 1 (R17, R132, R142, R143). -/
def Obligations.ReleaseWindow : Prop :=
  ∀ (s : State) (a : Access) (d : DomainId) (tgt : BitVec 8) (up : BitVec 16) (h : Handle) (w : Window),
    Admits s a d → tgt.toNat = h.val → s.window h = some w → w.owner = d →
    (w.state = .parked ∨ w.state = .spent ∨ w.state = .failed) → s.inService h = false →
    ∃ t, exec (.releaseWindow a tgt up) s = .next t ∧ Answers s t d (commandWord 0x11 tgt up) .done noResults ∧
      t.window h = none ∧ OnlyWindow s t h ∧ t.pendingCauses h = 0 ∧ OnlyCauses s t h ∧
      (∀ l : Level, (t.notice d).lists[l] = (s.notice d).lists[l].filter fun x => x != h) ∧
      (t.notice d).service = (s.notice d).service ∧ (t.notice d).mask = (s.notice d).mask ∧
      (t.notice d).mode = (s.notice d).mode ∧ (t.notice d).autoRetire = (s.notice d).autoRetire ∧ OnlyNotice s t d ∧
      t.domain d =
        { s.domain d with
          held := (s.domain d).held - 1
          slots := (s.domain d).slots.set w.home
            ((s.domain d).slots[w.home].map fun r => { r with homes := r.homes - 1 }) } ∧
      OnlyDomain s t d ∧ Frame s t [.windows, .causes, .notices, .domains, .ports]

/-- BIND WINDOW appends a PARKED window at the tail of a channel of its owner: ACTIVE with its lease renewed on an empty
chain of a channel neither STALLED nor MOVING, LINKED otherwise; starved is cleared and an IDLE channel settles; then the
grant decision of R54 (R39). With the chains in agreement the window is the new tail and the former tail's next. -/
def Obligations.BindWindow : Prop :=
  ∀ (s : State) (a : Access) (d : DomainId) (tgt : BitVec 8) (up : BitVec 16) (h : Handle) (w : Window) (c : ChannelId)
    (ch : Channel) (active : Bool),
    Admits s a d → tgt.toNat = h.val → s.window h = some w → w.owner = d → w.state = .parked →
    bits (s.port d).params[0] 0 8 = c.val → s.channel c = ch → ch.owner = some d →
    (active = true ↔ ch.chain = [] ∧ ch.state ≠ .stalled ∧ ch.state ≠ .moving) →
    ∃ m, exec (.bindWindow a tgt up) s = .next m.grantDecision ∧
      Answers s m d (commandWord 0x12 tgt up) .done
        (words (field (if active then 3 else 2) 0 ||| field (ch.chain.length + 1) 8) 0 0 0) ∧
      m.window h = some
        { w with
          state := if active then .active else .linked
          channel := some c
          lease := if active then w.leaseLimit else w.lease } ∧
      OnlyWindow s m h ∧
      m.channel c =
        { ch with
          chain := ch.chain ++ [h]
          starved := false
          state := if ch.state = .idle then (if ch.effective then .pending else .armed) else ch.state } ∧
      OnlyChannel s m c ∧ Frame s m [.windows, .channels, .ports] ∧
      (ChainsAgree s → m.nextOf h = none ∧ ∀ x ∈ ch.chain.getLast?, m.nextOf x = some h)

/-- REVOKE WINDOW, by the owner or by domain 0, on a window that leaves its chain with no change of the chain's head state:
a LINKED window becomes PARKED and the command completes at once; the ACTIVE head whose unit is in flight becomes DRAINING,
keeps its channel field, and the command waits, the unit record untouched (R87, R88, R90, R92). -/
def Obligations.RevokeLeavesChain : Prop :=
  ∀ (s : State) (a : Access) (d : DomainId) (tgt : BitVec 8) (up : BitVec 16) (h : Handle) (w : Window) (c : ChannelId),
    Admits s a d → tgt.toNat = h.val → s.window h = some w → (w.owner = d ∨ d = 0) → w.channel = some c →
    (w.state = .linked →
      ∃ m, exec (.revokeWindow a tgt up) s = .next (withOverride m d w.owner h) ∧
        Answers s m d (commandWord 0x13 tgt up) .done (words (field 1 0 ||| field w.remaining 8) 0 0 0) ∧
        m.window h = some { w with state := .parked, channel := none } ∧ OnlyWindow s m h ∧
        m.channel c = { s.channel c with chain := (s.channel c).chain.filter fun x => x != h } ∧ OnlyChannel s m c ∧
        Frame s m [.windows, .channels, .ports]) ∧
    (w.state = .active → s.inFlight h = true →
      ∃ m, exec (.revokeWindow a tgt up) s = .next (withOverride m d w.owner h) ∧
        StartsWait s m d (commandWord 0x13 tgt up) (.revoke h) ∧
        m.window h = some { w with state := .draining } ∧ OnlyWindow s m h ∧
        m.channel c = { s.channel c with chain := (s.channel c).chain.filter fun x => x != h } ∧ OnlyChannel s m c ∧
        Frame s m [.windows, .channels, .ports])

/-- REVOKE WINDOW on an ACTIVE head with no unit of it in flight: it becomes PARKED, the window behind it becomes the ACTIVE
head with its lease renewed, an OFF channel stays OFF and an ARMED or PENDING one settles; it completes at once (R89, R92). -/
def Obligations.RevokeActiveHead : Prop :=
  ∀ (s : State) (a : Access) (d : DomainId) (tgt : BitVec 8) (up : BitVec 16) (h : Handle) (w : Window) (c : ChannelId)
    (ch : Channel) (rest : List Handle),
    Admits s a d → tgt.toNat = h.val → s.window h = some w → (w.owner = d ∨ d = 0) → w.channel = some c →
    w.state = .active → s.inFlight h = false → s.channel c = ch →
    (ch.state = .off ∨ ch.state = .armed ∨ ch.state = .pending) → rest = ch.chain.filter (fun x => x != h) →
    ∃ m, exec (.revokeWindow a tgt up) s = .next (withOverride m d w.owner h) ∧
      Answers s m d (commandWord 0x13 tgt up) .done (words (field 1 0 ||| field w.remaining 8) 0 0 0) ∧
      m.window h = some { w with state := .parked, channel := none } ∧ HeadActivated s m h rest ∧
      m.channel c =
        (if ch.state = .off then { ch with chain := rest } else settlesTo { ch with chain := rest }) ∧
      OnlyChannel s m c ∧ Frame s m [.windows, .channels, .ports]

/-- REWIND WINDOW returns a PARKED, SPENT or FAILED window to its first unit and to PARKED, and is refused STATE in the other
states; TOUCH WINDOW renews the lease of a window in any live state. Each changes its window's record alone, and is refused
BAD-HANDLE on a FREE window or a handle of 64 or more and NOT-OWNER on another domain's, domain 0's touch too (R19, R110). -/
def Obligations.RewindAndTouch : Prop :=
  ∀ (s : State) (a : Access) (d : DomainId) (tgt : BitVec 8) (up : BitVec 16), Admits s a d →
    ((∀ h : Handle, tgt.toNat = h.val → s.window h = none) →
      Refused s (.rewindWindow a tgt up) d .badHandle ∧ Refused s (.touchWindow a tgt up) d .badHandle) ∧
    ∀ (h : Handle) (w : Window), tgt.toNat = h.val → s.window h = some w →
      (w.owner ≠ d → Refused s (.rewindWindow a tgt up) d .notOwner ∧ Refused s (.touchWindow a tgt up) d .notOwner) ∧
      (w.owner = d → (w.state = .linked ∨ w.state = .active ∨ w.state = .draining) →
        Refused s (.rewindWindow a tgt up) d .state) ∧
      (w.owner = d → (w.state = .parked ∨ w.state = .spent ∨ w.state = .failed) →
        ∃ t, exec (.rewindWindow a tgt up) s = .next t ∧ Answers s t d (commandWord 0x14 tgt up) .done noResults ∧
          t.window h = some
            { w with state := .parked, address := w.base, remaining := w.count, laps := 0, fault := none } ∧
          OnlyWindow s t h ∧ Frame s t [.windows, .ports]) ∧
      (w.owner = d →
        ∃ t, exec (.touchWindow a tgt up) s = .next t ∧
          Answers s t d (commandWord 0x16 tgt up) .done
            (words (field w.state.code 0 ||| field w.leaseLimit 8) 0 0 0) ∧
          t.window h = some { w with lease := w.leaseLimit } ∧ OnlyWindow s t h ∧ Frame s t [.windows, .ports])

/-- AMEND WINDOW replaces the five fields, read from PARAM0 and PARAM1 field by field, and renews the lease; with the level changed a pending window moves to the tail of
the new level's list, or with NONE loses its pending causes (R21, R22, R24). -/
def Obligations.AmendWindow : Prop :=
  ∀ (s : State) (a : Access) (d : DomainId) (tgt : BitVec 8) (up : BitVec 16) (h : Handle) (w : Window) (x : Notify),
    Admits s a d → tgt.toNat = h.val → s.window h = some w → w.owner = d →
    NotifyGiven (s.port d).params[0] (s.port d).params[1] x → (x.level = w.level ∨ s.inService h = false) →
    ∃ t, exec (.amendWindow a tgt up) s = .next t ∧ Answers s t d (commandWord 0x15 tgt up) .done noResults ∧
      t.window h = some
        { w with
          tag := x.tag, level := x.level, onSpent := x.onSpent, onLap := x.onLap, leaseLimit := x.leaseLimit
          lease := x.leaseLimit } ∧
      OnlyWindow s t h ∧ Frame s t [.windows, .causes, .notices, .ports] ∧
      (x.level = w.level ∨ w.level = none ∨ s.pendingCauses h = 0 → t.notices = s.notices ∧ t.causes = s.causes) ∧
      ∀ l, w.level = some l → x.level ≠ some l → s.pendingCauses h ≠ 0 →
        t.pendingCauses h = (if x.level = none then 0 else s.pendingCauses h) ∧ OnlyCauses s t h ∧ OnlyNotice s t d ∧
        (t.notice d).service = (s.notice d).service ∧ (t.notice d).mask = (s.notice d).mask ∧
        (t.notice d).mode = (s.notice d).mode ∧ (t.notice d).autoRetire = (s.notice d).autoRetire ∧
        ∀ k : Level, (t.notice d).lists[k] =
          if k = l then (s.notice d).lists[k].filter fun y => y != h
          else if x.level = some k then (s.notice d).lists[k] ++ [h]
          else (s.notice d).lists[k]

/-- READ WINDOW, READ DOMAIN and READ CHANNEL return the record asked for as it stands, each word field by field as the
layouts place it, an absent field 0 with its flag clear; they change nothing but the starved flag that READ CHANNEL clears;
domain 0 may read another domain's (R25, R49, R140, R151, R178). The codes in the words are those of the table of codes, and
with them stand those of the other words: OUTCOME (R166), the run state, the class policies and the bits of a cause set. -/
def Obligations.ReadCommands : Prop :=
  ([WindowState.parked, .linked, .active, .draining, .spent, .failed].map WindowState.code = [1, 2, 3, 4, 5, 6] ∧
    [ChannelState.off, .idle, .armed, .pending, .moving, .stalled].map ChannelState.code = [0, 1, 2, 3, 4, 5] ∧
    [DomainState.opened, .closing, .closed].map DomainState.code = [0, 1, 2] ∧
    [UnitSize.one, .two, .four].map UnitSize.bytes = [1, 2, 4] ∧
    [AddressStep.up, .down, .fixed].map AddressStep.code = [0, 1, 2] ∧
    [Direction.inbound, .outbound, .check].map Direction.code = [0, 1, 2] ∧
    [Failure.busError, .unitTimeout, .expired].map Failure.code = [0, 1, 2] ∧
    [Mode.single, .demand, .block].map Mode.code = [0, 1, 2] ∧
    [NoticeMode.nested, .flat].map NoticeMode.code = [0, 1] ∧
    [RunState.run, .paused].map RunState.code = [0, 1] ∧
    [Policy.fixed, .rotate].map Policy.code = [0, 1] ∧
    [OutcomeCode.done, .unknown, .privilege, .badHandle, .notOwner, .badValue, .align, .state, .noticeHeld, .inUse, .range,
      .quota, .full, .aborted, .closed].map OutcomeCode.code = List.range 15 ∧
    [Cause.spent, .lap, .expired, .busError, .unitTimeout, .override].map Cause.flag = [1, 2, 4, 8, 16, 32]) ∧
  ∀ (s : State) (a : Access) (d : DomainId) (tgt : BitVec 8) (up : BitVec 16), Admits s a d →
    (∀ (h : Handle) (w : Window), tgt.toNat = h.val → s.window h = some w → (w.owner = d ∨ d = 0) →
      (bits (s.port d).params[0] 0 8 = 0 →
        ∃ t, exec (.readWindow a tgt up) s = .next t ∧
          Answers s t d (commandWord 0x17 tgt up) .done
            (words w.base
              (field w.count 0 ||| field w.size.bytes 17 ||| field w.step.code 20 ||| field w.direction.code 22 |||
                flag w.reload 24 ||| field w.state.code 25 ||| field w.owner.val 28 ||| field w.home.val 30)
              (field w.leaseLimit 0 ||| field (w.level.elim 8 Fin.val) 16 ||| flag w.onSpent 20 ||| flag w.onLap 21)
              (field w.tag.toNat 0)) ∧
          Frame s t [.ports]) ∧
      (bits (s.port d).params[0] 0 8 = 1 →
        ∃ t, exec (.readWindow a tgt up) s = .next t ∧
          Answers s t d (commandWord 0x17 tgt up) .done
            (words w.address (field w.remaining 0 ||| field w.lease 20)
              (field w.laps 0 ||| field (w.channel.elim 0 Fin.val) 16 ||| flag w.channel.isSome 20 |||
                field ((s.nextOf h).elim 0 Fin.val) 24 ||| flag (s.nextOf h).isSome 30 ||| flag (s.inService h) 31)
              (field (s.pendingCauses h).toNat 0 ||| field (w.fault.elim 0 Failure.code) 8 |||
                flag w.fault.isSome 10)) ∧
          Frame s t [.ports])) ∧
    (∀ (x : DomainId) (i : SlotId) (r : Option RangeSlot) (owned : ChannelSet), (d = x ∨ d = 0) → tgt.toNat = x.val →
      bits (s.port d).params[0] 0 8 = i.val → (s.domain x).slots[i] = r →
      (∀ c : ChannelId, owned.getLsbD c.val = decide ((s.channel c).owner = some x)) →
      ∃ t, exec (.readDomain a tgt up) s = .next t ∧
        Answers s t d (commandWord 0x4B tgt up) .done
          (words
            (field (s.domain x).state.code 0 ||| flag (s.domain x).clearing 3 ||| field (s.domain x).quota 4 |||
              field (s.domain x).held 12 ||| field owned.toNat 20)
            (field (s.notice x).mask.toNat 0 ||| field (s.notice x).mode.code 8 ||| flag (s.notice x).autoRetire 12 |||
              flag (s.note x) 16 ||| flag r.isSome 20 ||| flag (r.any fun y => y.read) 21 |||
              flag (r.any fun y => y.write) 22 ||| field (r.elim 0 fun y => y.homes) 24)
            (field (r.elim 0 fun y => y.first) 0) (field (r.elim 0 fun y => y.last) 0)) ∧
        Frame s t [.ports]) ∧
    ∀ (c : ChannelId) (ch : Channel), tgt.toNat = c.val → s.channel c = ch → (ch.owner = some d ∨ d = 0) →
      ∃ t, exec (.readChannel a tgt up) s = .next t ∧
        Answers s t d (commandWord 0x28 tgt up) .done
          (words
            (field (ch.owner.elim 0 Fin.val) 0 ||| flag ch.owner.isSome 2 ||| field ch.state.code 3 |||
              field ch.mode.code 6 ||| field ch.cls.val 8 ||| field ch.burstLimit 10 ||| flag ch.masked 19 |||
              flag ch.soft 20 ||| flag ch.line 21 ||| flag ((ch.line && !ch.masked) || ch.soft) 22 |||
              flag ch.starved 23 ||| flag ch.disablePending 24)
            (field (ch.chain.head?.elim 0 Fin.val) 0 ||| flag ch.chain.head?.isSome 6 |||
              field (ch.chain.getLast?.elim 0 Fin.val) 8 ||| flag ch.chain.getLast?.isSome 14 |||
              field ch.chain.length 16 ||| field ch.burst 23)
            ch.moved
            (field (ch.stall.elim 0 fun x => x.window.val) 0 ||| field (ch.stall.elim 0 fun x => x.cause.code) 6 |||
              flag ch.stall.isSome 8)) ∧
        t.channel c = { ch with starved := false } ∧ OnlyChannel s t c ∧ Frame s t [.channels, .ports]

/-- The refusals of RELEASE, BIND, REVOKE, AMEND and READ WINDOW, in the order of R163: BAD-HANDLE, NOT-OWNER, BAD-VALUE,
STATE and NOTICE-HELD; AMEND WINDOW's BAD-VALUE is for a level code above 8 or a lease limit above 4095 (R11, R17, R21, R25,
R38, R87, R140, R177). Of BIND WINDOW on a FAILED window R112 reads otherwise (log
25). -/
def Obligations.WindowRefusals : Prop :=
  ∀ (s : State) (a : Access) (d : DomainId) (tgt : BitVec 8) (up : BitVec 16), Admits s a d →
    ((∀ h : Handle, tgt.toNat = h.val → s.window h = none) →
      ∀ mk ∈ [Instr.releaseWindow, .bindWindow, .revokeWindow, .amendWindow, .readWindow],
        Refused s (mk a tgt up) d .badHandle) ∧
    (12 ≤ bits (s.port d).params[0] 0 8 → Refused s (.bindWindow a tgt up) d .badHandle) ∧
    ∀ (h : Handle) (w : Window), tgt.toNat = h.val → s.window h = some w →
      (w.owner ≠ d →
        Refused s (.releaseWindow a tgt up) d .notOwner ∧ Refused s (.amendWindow a tgt up) d .notOwner ∧
        (d ≠ 0 → ∀ mk ∈ [Instr.revokeWindow, .readWindow], Refused s (mk a tgt up) d .notOwner)) ∧
      (∀ c : ChannelId, bits (s.port d).params[0] 0 8 = c.val → (w.owner ≠ d ∨ (s.channel c).owner ≠ some d) →
        Refused s (.bindWindow a tgt up) d .notOwner) ∧
      (∀ c : ChannelId, bits (s.port d).params[0] 0 8 = c.val → w.owner = d → (s.channel c).owner = some d →
        w.state ≠ .parked → Refused s (.bindWindow a tgt up) d .state) ∧
      (w.owner = d → (w.state = .linked ∨ w.state = .active ∨ w.state = .draining) →
        Refused s (.releaseWindow a tgt up) d .state) ∧
      ((w.owner = d ∨ d = 0) →
        (w.state = .parked ∨ w.state = .draining ∨ w.state = .spent ∨ w.state = .failed) →
        Refused s (.revokeWindow a tgt up) d .state) ∧
      ((w.owner = d ∨ d = 0) → 2 ≤ bits (s.port d).params[0] 0 8 → Refused s (.readWindow a tgt up) d .badValue) ∧
      (w.owner = d → (w.state = .parked ∨ w.state = .spent ∨ w.state = .failed) → s.inService h = true →
        Refused s (.releaseWindow a tgt up) d .noticeHeld) ∧
      (w.owner = d → NotifyBad (s.port d).params[0] → Refused s (.amendWindow a tgt up) d .badValue) ∧
      (∀ x, w.owner = d → NotifyGiven (s.port d).params[0] (s.port d).params[1] x → x.level ≠ w.level →
        s.inService h = true → Refused s (.amendWindow a tgt up) d .noticeHeld)

/-! ## Channel commands -/

/-- ENABLE CHANNEL takes an OFF channel into IDLE, ARMED or PENDING with its head as it was; RESUME CHANNEL removes the stall
of a STALLED channel, makes its head ACTIVE with its lease renewed, and settles it; each is followed by the grant decision
of R54 (R33, R40, R47). -/
def Obligations.ChannelSettles : Prop :=
  ∀ (s : State) (a : Access) (d : DomainId) (tgt : BitVec 8) (up : BitVec 16) (c : ChannelId),
    Admits s a d → tgt.toNat = c.val → (s.channel c).owner = some d →
    ((s.channel c).state = .off →
      ∃ m, exec (.enableChannel a tgt up) s = .next m.grantDecision ∧
        Answers s m d (commandWord 0x20 tgt up) .done noResults ∧ m.channel c = settlesTo (s.channel c) ∧
        OnlyChannel s m c ∧ Frame s m [.channels, .ports]) ∧
    ((s.channel c).state = .stalled →
      ∃ m, exec (.resumeChannel a tgt up) s = .next m.grantDecision ∧
        Answers s m d (commandWord 0x26 tgt up) .done noResults ∧
        m.channel c = settlesTo { s.channel c with stall := none } ∧ OnlyChannel s m c ∧
        (∀ x : Handle, m.window x =
          if (s.channel c).chain.head? = some x then (s.window x).map asHead else s.window x) ∧
        Frame s m [.windows, .channels, .ports])

/-- DISABLE CHANNEL clears the soft request; it turns an IDLE, ARMED or PENDING channel OFF at once with its head as it was,
a STALLED one OFF with its stall removed and its head ACTIVE with its lease renewed, and on a MOVING one it sets disable
pending and waits (R41, R42). -/
def Obligations.DisableChannel : Prop :=
  ∀ (s : State) (a : Access) (d : DomainId) (tgt : BitVec 8) (up : BitVec 16) (c : ChannelId),
    Admits s a d → tgt.toNat = c.val → (s.channel c).owner = some d →
    (((s.channel c).state = .idle ∨ (s.channel c).state = .armed ∨ (s.channel c).state = .pending) →
      ∃ t, exec (.disableChannel a tgt up) s = .next t ∧ Answers s t d (commandWord 0x21 tgt up) .done noResults ∧
        t.channel c = { s.channel c with state := .off, soft := false } ∧ OnlyChannel s t c ∧
        Frame s t [.channels, .ports]) ∧
    ((s.channel c).state = .stalled →
      ∃ t, exec (.disableChannel a tgt up) s = .next t ∧ Answers s t d (commandWord 0x21 tgt up) .done noResults ∧
        t.channel c = { s.channel c with state := .off, soft := false, stall := none } ∧ OnlyChannel s t c ∧
        (∀ x : Handle, t.window x =
          if (s.channel c).chain.head? = some x then (s.window x).map asHead else s.window x) ∧
        Frame s t [.windows, .channels, .ports]) ∧
    ((s.channel c).state = .moving →
      ∃ t, exec (.disableChannel a tgt up) s = .next t ∧ StartsWait s t d (commandWord 0x21 tgt up) (.disable c) ∧
        t.channel c = { s.channel c with soft := false, disablePending := true } ∧ OnlyChannel s t c ∧
        Frame s t [.channels, .ports])

/-- MASK CHANNEL sets the masked flag, and a PENDING channel without a soft request becomes ARMED; UNMASK CHANNEL clears it,
and an ARMED channel whose line is asserted becomes PENDING, with the grant decision of R54; a flag that stands already
leaves everything as it is but the port's completion, no grant decision being due (R43, R54). -/
def Obligations.MaskAndUnmask : Prop :=
  ∀ (s : State) (a : Access) (d : DomainId) (tgt : BitVec 8) (up : BitVec 16) (c : ChannelId) (ch : Channel),
    Admits s a d → tgt.toNat = c.val → s.channel c = ch → ch.owner = some d → ChannelSound s c →
    (∃ t, exec (.maskChannel a tgt up) s = .next t ∧ Answers s t d (commandWord 0x22 tgt up) .done noResults ∧
      t.channel c =
        (if ch.masked then ch
         else
          { ch with masked := true, state := if ch.state = .pending ∧ ch.soft = false then .armed else ch.state }) ∧
      OnlyChannel s t c ∧ Frame s t [.channels, .ports]) ∧
    ∃ m, exec (.unmaskChannel a tgt up) s = .next m.grantDecision ∧
      Answers s m d (commandWord 0x23 tgt up) .done noResults ∧
      m.channel c =
        (if ch.masked then
          { ch with masked := false, state := if ch.state = .armed ∧ ch.line = true then .pending else ch.state }
         else ch) ∧
      OnlyChannel s m c ∧ Frame s m [.channels, .ports] ∧
      (ch.masked = false → NoGrantDue s → m.grantDecision = m ∧ Frame s m [.ports])

/-- SET CHANNEL: BAD-HANDLE for a channel of 12 or more, NOT-OWNER, BAD-VALUE for a mode code 3, a class above 3 or a burst
limit of 0 or above 256, STATE on a channel that is not OFF; otherwise mode, class and burst limit are replaced, all three
and nothing else (R44). -/
def Obligations.SetChannel : Prop :=
  ∀ (s : State) (a : Access) (d : DomainId) (tgt : BitVec 8) (up : BitVec 16) (p0 : Word), Admits s a d →
    p0 = (s.port d).params[0] →
    (12 ≤ tgt.toNat → Refused s (.setChannel a tgt up) d .badHandle) ∧
    ∀ c : ChannelId, tgt.toNat = c.val →
      ((s.channel c).owner ≠ some d → Refused s (.setChannel a tgt up) d .notOwner) ∧
      ((s.channel c).owner = some d →
        (bits p0 0 2 = 3 ∨ 4 ≤ bits p0 4 3 ∨ bits p0 16 9 = 0 ∨ 256 < bits p0 16 9 →
          Refused s (.setChannel a tgt up) d .badValue) ∧
        ∀ k : ClassId, bits p0 0 2 ≠ 3 → bits p0 4 3 = k.val → 1 ≤ bits p0 16 9 → bits p0 16 9 ≤ 256 →
          ((s.channel c).state ≠ .off → Refused s (.setChannel a tgt up) d .state) ∧
          ((s.channel c).state = .off →
            ∃ t, exec (.setChannel a tgt up) s = .next t ∧
              Answers s t d (commandWord 0x24 tgt up) .done noResults ∧
              t.channel c =
                { s.channel c with
                  mode := if bits p0 0 2 = 0 then .single else if bits p0 0 2 = 1 then .demand else .block
                  cls := k
                  burstLimit := bits p0 16 9 } ∧
              OnlyChannel s t c ∧ Frame s t [.channels, .ports]))

/-- PULSE CHANNEL: BAD-HANDLE for a channel of 12 or more, NOT-OWNER, STATE on a channel neither ARMED nor PENDING;
otherwise the soft request is set and the channel is PENDING, masked or not, with the grant decision of R54 (R31, R48). Of
a MOVING channel R34 reads otherwise (log 23). -/
def Obligations.PulseChannel : Prop :=
  ∀ (s : State) (a : Access) (d : DomainId) (tgt : BitVec 8) (up : BitVec 16), Admits s a d →
    (12 ≤ tgt.toNat → Refused s (.pulseChannel a tgt up) d .badHandle) ∧
    ∀ c : ChannelId, tgt.toNat = c.val →
      ((s.channel c).owner ≠ some d → Refused s (.pulseChannel a tgt up) d .notOwner) ∧
      ((s.channel c).owner = some d → (s.channel c).state ≠ .armed → (s.channel c).state ≠ .pending →
        Refused s (.pulseChannel a tgt up) d .state) ∧
      ((s.channel c).owner = some d → ((s.channel c).state = .armed ∨ (s.channel c).state = .pending) →
        ∃ m, exec (.pulseChannel a tgt up) s = .next m.grantDecision ∧
          Answers s m d (commandWord 0x27 tgt up) .done noResults ∧
          m.channel c = { s.channel c with state := .pending, soft := true } ∧ OnlyChannel s m c ∧
          Frame s m [.channels, .ports])

/-- CUT CHAIN empties the chain of a channel: every window of it becomes PARKED, but for an ACTIVE head whose unit is in
flight, which becomes DRAINING and makes the command wait; the stall and the soft request are cleared, and an ARMED, PENDING
or STALLED channel becomes IDLE (R45, R46). -/
def Obligations.CutChain : Prop :=
  ∀ (s : State) (a : Access) (d : DomainId) (tgt : BitVec 8) (up : BitVec 16) (c : ChannelId) (ch : Channel),
    Admits s a d → tgt.toNat = c.val → s.channel c = ch → ch.owner = some d → ChainsAgree s →
    ∃ t, exec (.cutChain a tgt up) s = .next t ∧ OnlyChannel s t c ∧
      t.channel c =
        (if ch.state = .armed ∨ ch.state = .pending ∨ ch.state = .stalled then
          { ch with chain := [], stall := none, soft := false, state := .idle, starved := ch.starved || ch.line }
         else { ch with chain := [], stall := none, soft := false }) ∧
      (∀ h : Handle, h ∉ ch.chain → t.window h = s.window h) ∧
      (∀ (h : Handle) (w : Window), h ∈ ch.chain → s.window h = some w → t.window h = some
        (if w.state = .active ∧ s.inFlight h = true then { w with state := .draining }
         else { w with state := .parked, channel := none })) ∧
      Frame s t [.windows, .channels, .ports] ∧
      ((∀ (h : Handle) (w : Window), ch.chain.head? = some h → s.window h = some w →
          ¬ (w.state = .active ∧ s.inFlight h = true)) →
        Answers s t d (commandWord 0x25 tgt up) .done (words (field ch.chain.length 0) 0 0 0)) ∧
      ∀ (h : Handle) (w : Window), ch.chain.head? = some h → s.window h = some w → w.state = .active →
        s.inFlight h = true → StartsWait s t d (commandWord 0x25 tgt up) (.cut h ch.chain.length)

/-- The refusals of the other channel commands: BAD-HANDLE for a channel of 12 or more, NOT-OWNER but for READ CHANNEL by
domain 0, and STATE by the channel's state (R28, R40, R41, R43, R45, R47, R49, R140). -/
def Obligations.ChannelRefusals : Prop :=
  ∀ (s : State) (a : Access) (d : DomainId) (tgt : BitVec 8) (up : BitVec 16), Admits s a d →
    (12 ≤ tgt.toNat →
      ∀ mk ∈ [Instr.enableChannel, .disableChannel, .maskChannel, .unmaskChannel, .cutChain, .resumeChannel, .readChannel],
        Refused s (mk a tgt up) d .badHandle) ∧
    ∀ c : ChannelId, tgt.toNat = c.val →
      ((s.channel c).owner ≠ some d →
        (∀ mk ∈ [Instr.enableChannel, .disableChannel, .maskChannel, .unmaskChannel, .cutChain, .resumeChannel],
          Refused s (mk a tgt up) d .notOwner) ∧
        (d ≠ 0 → Refused s (.readChannel a tgt up) d .notOwner)) ∧
      ((s.channel c).owner = some d →
        ((s.channel c).state ≠ .off → Refused s (.enableChannel a tgt up) d .state) ∧
        ((s.channel c).state = .off → Refused s (.disableChannel a tgt up) d .state) ∧
        ((s.channel c).state ≠ .stalled → Refused s (.resumeChannel a tgt up) d .state))

/-! ## Notices -/

/-- RETIRE NOTICE removes the entry that names its window, and RETIRE TOP the entry at the most urgent level that holds one;
RESULT0 reports the handle, the level and the delivered causes, and nothing else changes. RETIRE NOTICE is refused BAD-HANDLE,
NOT-OWNER and STATE on a window not in service, and RETIRE TOP STATE with no entry in service (R127, R128). -/
def Obligations.RetireNotices : Prop :=
  ∀ (s : State) (a : Access) (d : DomainId) (tgt : BitVec 8) (up : BitVec 16), Admits s a d →
    ((∀ h : Handle, tgt.toNat = h.val → s.window h = none) → Refused s (.retireNotice a tgt up) d .badHandle) ∧
    (∀ (h : Handle) (w : Window), tgt.toNat = h.val → s.window h = some w →
      (w.owner ≠ d → Refused s (.retireNotice a tgt up) d .notOwner) ∧
      (w.owner = d → s.inService h = false → Refused s (.retireNotice a tgt up) d .state)) ∧
    ((∀ l : Level, (s.notice d).service[l] = none) → Refused s (.retireTop a tgt up) d .state) ∧
    ∀ (l : Level) (e : NoticeEntry) (r : Words4), (s.notice d).service[l] = some e →
      r = words (field e.causes.toNat 16 ||| field l.val 22 ||| field e.window.val 25) 0 0 0 →
      (NoticesAgree s → tgt.toNat = e.window.val →
        ∃ t, exec (.retireNotice a tgt up) s = .next t ∧ Answers s t d (commandWord 0x30 tgt up) .done r ∧
          t.notice d = { s.notice d with service := (s.notice d).service.set l none } ∧ OnlyNotice s t d ∧
          t.inService e.window = false ∧ Frame s t [.notices, .ports]) ∧
      ((∀ k : Level, k < l → (s.notice d).service[k] = none) →
        ∃ t, exec (.retireTop a tgt up) s = .next t ∧ Answers s t d (commandWord 0x31 tgt up) .done r ∧
          t.notice d = { s.notice d with service := (s.notice d).service.set l none } ∧ OnlyNotice s t d ∧
          (NoticesAgree s → t.inService e.window = false) ∧ Frame s t [.notices, .ports])

/-- SET NOTICES replaces the caller's mask, mode and auto-retire and reports them with the NOTE line as it then stands; it is
refused BAD-VALUE for a mode code that names no mode (R130). -/
def Obligations.SetNotices : Prop :=
  ∀ (s : State) (a : Access) (d : DomainId) (tgt : BitVec 8) (up : BitVec 16) (p0 : Word), Admits s a d →
    p0 = (s.port d).params[0] →
    (2 ≤ bits p0 8 2 → Refused s (.setNotices a tgt up) d .badValue) ∧
    (bits p0 8 2 ≤ 1 →
      ∃ t, exec (.setNotices a tgt up) s = .next t ∧
        t.notice d =
          { s.notice d with
            mask := p0.extractLsb' 0 8
            mode := if bits p0 8 2 = 0 then .nested else .flat
            autoRetire := p0.getLsbD 12 } ∧
        Answers s t d (commandWord 0x32 tgt up) .done
          (words (field (bits p0 0 8) 0 ||| field (bits p0 8 2) 8 ||| flag (p0.getLsbD 12) 12 ||| flag (t.note d) 16)
            0 0 0) ∧
        OnlyNotice s t d ∧ Frame s t [.notices, .ports])

/-- ACKNOWLEDGE returns the notice word of the most urgent eligible window, the head of its level's list, with its pending
causes and the tag it holds, as a PEEK read in its place would; the window leaves its list with its pending set emptied, and
unless auto-retire is on its level's entry names it with those causes. With no eligible window the word is 0 and nothing
changes (R123 to R125, R171). The word is in the model's own field readData, and what PEEK returns is a function of the
state (logs 9 and 8). -/
def Obligations.Acknowledge : Prop :=
  ∀ (s : State) (a : Access) (d : DomainId), Reaches s a d →
    (s.note d = false → exec (.acknowledge a) s = .next { s with readData := 0 }) ∧
    ∀ (l : Level) (h : Handle) (rest : List Handle) (w : Window),
      LevelOpen (s.notice d) l → (s.notice d).lists[l] = h :: rest →
      (∀ k : Level, k < l → ¬ LevelOpen (s.notice d) k ∨ (s.notice d).lists[k] = []) → s.window h = some w →
      ∃ t, exec (.acknowledge a) s = .next t ∧
        t.readData =
          field w.tag.toNat 0 ||| field (s.pendingCauses h).toNat 16 ||| field l.val 22 ||| field h.val 25 |||
            flag true 31 ∧
        t.readData = s.readRegister d 11 ∧ t.pendingCauses h = 0 ∧ OnlyCauses s t h ∧
        (∀ k : Level, (t.notice d).lists[k] =
          if k = l then (s.notice d).lists[k].filter fun x => x != h else (s.notice d).lists[k]) ∧
        (t.notice d).service =
          (if (s.notice d).autoRetire then (s.notice d).service
           else (s.notice d).service.set l (some { window := h, causes := s.pendingCauses h })) ∧
        (t.notice d).mask = (s.notice d).mask ∧ (t.notice d).mode = (s.notice d).mode ∧
        (t.notice d).autoRetire = (s.notice d).autoRetire ∧ OnlyNotice s t d ∧
        Frame s t [.notices, .causes, .readData]

/-- NOTEd is asserted exactly when the domain has an eligible window: one in the list of a level that is not masked and that
no entry in service holds back, at that level or, in NESTED mode, at a more urgent one (R121, R122). -/
def Obligations.NoteLine : Prop :=
  ∀ (s : State) (d : DomainId), s.note d = true ↔
    ∃ (l : Level) (h : Handle), h ∈ (s.notice d).lists[l] ∧ LevelOpen (s.notice d) l

/-- The raise of a cause adds it to the window's pending set and, from an empty set, puts the window at the tail of its
level's list in its owner's record; a level of NONE raises nothing (R6, R117). -/
def Obligations.RaiseJoinsList : Prop :=
  ∀ (s : State) (h : Handle) (w : Window) (x : Cause), s.window h = some w →
    (w.level = none → s.raise h x = s) ∧
    ∀ l, w.level = some l →
      (s.raise h x).pendingCauses h = s.pendingCauses h ||| x.flag ∧ OnlyCauses s (s.raise h x) h ∧
      (s.pendingCauses h ≠ 0 → (s.raise h x).notices = s.notices) ∧
      (s.pendingCauses h = 0 →
        (s.raise h x).notice w.owner =
          { s.notice w.owner with
            lists := (s.notice w.owner).lists.set l ((s.notice w.owner).lists[l] ++ [h]) } ∧
        OnlyNotice s (s.raise h x) w.owner) ∧
      Frame s (s.raise h x) [.causes, .notices]

/-! ## Supervisor commands -/

/-- OPEN DOMAIN opens a CLOSED domain of 1 to 3 with the quota given; SET QUOTA gives an OPEN domain a quota not below its
held count; each changes that domain's record alone. Both are refused BAD-HANDLE for a domain of 4 or more, BAD-VALUE for a
quota above 64 and STATE, and SET QUOTA is refused QUOTA below held (R144, R145). -/
def Obligations.DomainsAndQuotas : Prop :=
  ∀ (s : State) (a : Access) (tgt : BitVec 8) (up : BitVec 16) (q : Nat), Admits s a 0 →
    q = bits (s.port 0).params[0] 0 8 →
    (4 ≤ tgt.toNat → Refused s (.openDomain a tgt up) 0 .badHandle ∧ Refused s (.setQuota a tgt up) 0 .badHandle) ∧
    ∀ x : DomainId, tgt.toNat = x.val →
      (64 < q → Refused s (.openDomain a tgt up) 0 .badValue ∧ Refused s (.setQuota a tgt up) 0 .badValue) ∧
      (q ≤ 64 → (x = 0 ∨ (s.domain x).state ≠ .closed) → Refused s (.openDomain a tgt up) 0 .state) ∧
      (q ≤ 64 → (s.domain x).state ≠ .opened → Refused s (.setQuota a tgt up) 0 .state) ∧
      (q ≤ 64 → (s.domain x).state = .opened → q < (s.domain x).held → Refused s (.setQuota a tgt up) 0 .quota) ∧
      (q ≤ 64 → x ≠ 0 → (s.domain x).state = .closed →
        ∃ t, exec (.openDomain a tgt up) s = .next t ∧
          Answers s t 0 (commandWord 0x40 tgt up) .done (words (field x.val 0 ||| field q 8) 0 0 0) ∧
          t.domain x = { s.domain x with state := .opened, quota := q } ∧ OnlyDomain s t x ∧
          Frame s t [.domains, .ports]) ∧
      (q ≤ 64 → (s.domain x).state = .opened → (s.domain x).held ≤ q →
        ∃ t, exec (.setQuota a tgt up) s = .next t ∧
          Answers s t 0 (commandWord 0x42 tgt up) .done
            (words (field q 8 ||| field (s.domain x).held 16) 0 0 0) ∧
          t.domain x = { s.domain x with quota := q } ∧ OnlyDomain s t x ∧ Frame s t [.domains, .ports])

/-- SET RANGE fills, and CLEAR RANGE empties, one slot of an OPEN domain that is no live window's home; nothing else changes.
Both are refused BAD-HANDLE for a domain or a slot of 4 or more, STATE and IN-USE, and SET RANGE BAD-VALUE for pages out of
order or above FFFFFH (R146, R147). -/
def Obligations.Ranges : Prop :=
  ∀ (s : State) (a : Access) (tgt : BitVec 8) (up : BitVec 16) (p0 p1 p2 : Word), Admits s a 0 →
    p0 = (s.port 0).params[0] → p1 = (s.port 0).params[1] → p2 = (s.port 0).params[2] →
    (4 ≤ tgt.toNat ∨ 4 ≤ bits p0 0 8 →
      Refused s (.setRange a tgt up) 0 .badHandle ∧ Refused s (.clearRange a tgt up) 0 .badHandle) ∧
    ∀ (x : DomainId) (i : SlotId), tgt.toNat = x.val → bits p0 0 8 = i.val →
      (0xFFFFF < p1.toNat ∨ 0xFFFFF < p2.toNat ∨ p2.toNat < p1.toNat →
        Refused s (.setRange a tgt up) 0 .badValue) ∧
      ((s.domain x).state ≠ .opened →
        (p1.toNat ≤ p2.toNat → p2.toNat ≤ 0xFFFFF → Refused s (.setRange a tgt up) 0 .state) ∧
        Refused s (.clearRange a tgt up) 0 .state) ∧
      (∀ r, (s.domain x).state = .opened → (s.domain x).slots[i] = some r → 0 < r.homes →
        (p1.toNat ≤ p2.toNat → p2.toNat ≤ 0xFFFFF → Refused s (.setRange a tgt up) 0 .inUse) ∧
        Refused s (.clearRange a tgt up) 0 .inUse) ∧
      ((s.domain x).state = .opened → (∀ r, (s.domain x).slots[i] = some r → r.homes = 0) →
        (p1.toNat ≤ p2.toNat → p2.toNat ≤ 0xFFFFF →
          ∃ t, exec (.setRange a tgt up) s = .next t ∧
            Answers s t 0 (commandWord 0x43 tgt up) .done
              (words (field i.val 0 ||| flag (p0.getLsbD 8) 8 ||| flag (p0.getLsbD 9) 9) p1 p2 0) ∧
            t.domain x =
              { s.domain x with
                slots := (s.domain x).slots.set i (some
                  { first := p1.toNat, last := p2.toNat, read := p0.getLsbD 8, write := p0.getLsbD 9, homes := 0 }) } ∧
            OnlyDomain s t x ∧ Frame s t [.domains, .ports]) ∧
        ∃ t, exec (.clearRange a tgt up) s = .next t ∧ Answers s t 0 (commandWord 0x44 tgt up) .done noResults ∧
          t.domain x = { s.domain x with slots := (s.domain x).slots.set i none } ∧ OnlyDomain s t x ∧
          Frame s t [.domains, .ports])

/-- ASSIGN CHANNEL gives an unowned channel to an OPEN domain and leaves its other fields alone; UNASSIGN CHANNEL takes an
owned OFF channel with an empty chain back, with every field at its reset value but the recorded line (R51, R149, R150). -/
def Obligations.ChannelOwnership : Prop :=
  ∀ (s : State) (a : Access) (tgt : BitVec 8) (up : BitVec 16) (c : ChannelId) (x : DomainId),
    Admits s a 0 → tgt.toNat = c.val →
    (bits (s.port 0).params[0] 0 8 = x.val → (s.domain x).state = .opened → (s.channel c).owner = none →
      ∃ t, exec (.assignChannel a tgt up) s = .next t ∧ Answers s t 0 (commandWord 0x45 tgt up) .done noResults ∧
        t.channel c = { s.channel c with owner := some x } ∧ OnlyChannel s t c ∧ Frame s t [.channels, .ports]) ∧
    ((s.channel c).owner = some x → (s.channel c).state = .off → (s.channel c).chain = [] →
      ∃ t, exec (.unassignChannel a tgt up) s = .next t ∧
        Answers s t 0 (commandWord 0x46 tgt up) .done (words (field x.val 0) 0 0 0) ∧
        ChannelAtReset (t.channel c) ∧ (t.channel c).line = (s.channel c).line ∧ OnlyChannel s t c ∧
        Frame s t [.channels, .ports])

/-- CLOSE DOMAIN tears an OPEN domain of 1 to 3 down in one change. With no channel of it MOVING it completes at once: the
domain is CLOSED with quota 0 and holds nothing, no window and no channel is its own, and the results count the windows
freed and name the channels it owned. With one MOVING it waits, and the domain is CLOSING with its one DRAINING window and
that window's slot alone (R152 to R154). The settings that a MOVING channel keeps meanwhile are the model's reading (log
16). -/
def Obligations.CloseDomain : Prop :=
  ∀ (s : State) (a : Access) (tgt : BitVec 8) (up : BitVec 16) (x : DomainId) (owned : ChannelSet),
    Admits s a 0 → tgt.toNat = x.val → x ≠ 0 → (s.domain x).state = .opened → StructureSound s → CountsAgree s →
    (∀ c : ChannelId, owned.getLsbD c.val = decide ((s.channel c).owner = some x)) →
    ∃ m, exec (.closeDomain a tgt up) s = .next m ∧ TeardownBegun s m (fun d => d == x) ∧ OnlyDomain s m x ∧
      Frame s m [.windows, .causes, .channels, .domains, .notices, .ports] ∧
      ((∀ c : ChannelId, (s.channel c).owner = some x → (s.channel c).state ≠ .moving) →
        m.port 0 =
          { s.port 0 with
            waiting := none, commandWord := commandWord 0x41 tgt up, taken := (s.port 0).params, outcome := .done
            results := words (field (s.ownedWindows x).length 0) (field owned.toNat 0) 0 0 } ∧
        (m.domain x).state = .closed ∧ (m.domain x).quota = 0 ∧ HoldsNothing (m.domain x) ∧
        (∀ (h : Handle) (w : Window), m.window h = some w → w.owner ≠ x) ∧
        ∀ c : ChannelId, (m.channel c).owner ≠ some x) ∧
      ((∃ c : ChannelId, (s.channel c).owner = some x ∧ (s.channel c).state = .moving) →
        m.port 0 =
          { s.port 0 with
            waiting := some (.close (s.ownedWindows x).length owned)
            commandWord := commandWord 0x41 tgt up, taken := (s.port 0).params } ∧
        (m.domain x).state = .closing ∧ AwaitsUnit s m x)

/-- MASTER CLEAR tears domain 0 and every OPEN domain down in one change and sets the run state to RUN, with policies,
pointers and the lease clock kept; a domain that is not OPEN is not touched. With no channel MOVING it completes at once: no
window is live, every channel is unowned with reset settings, domains 1 to 3 are CLOSED with quota 0, and domain 0 stays
OPEN with its quota and slots. With one MOVING it waits for its unit: the domains it closes are CLOSING, the unit's own with
that window and its slot alone and the others with no window and no slot, and domain 0 keeps its slots (R66, R105, R153,
R156, R157). The settings that a MOVING channel keeps meanwhile are the model's reading (log 16). -/
def Obligations.MasterClear : Prop :=
  ∀ (s : State) (a : Access) (tgt : BitVec 8) (up : BitVec 16) (ds : DomainId → Bool) (owned : ChannelSet),
    Admits s a 0 → StructureSound s → CountsAgree s → (∀ d, ds d = true ↔ d = 0 ∨ (s.domain d).state = .opened) →
    (∀ c : ChannelId, owned.getLsbD c.val = decide ((s.channel c).owner ≠ none)) →
    ∃ m, exec (.masterClear a tgt up) s = .next m ∧ TeardownBegun s m ds ∧
      m.arbiter = { s.arbiter with run := .run } ∧
      Frame s m [.windows, .causes, .channels, .domains, .notices, .ports, .arbiter] ∧
      (m.domain 0).state = .opened ∧ (m.domain 0).quota = (s.domain 0).quota ∧
      (∀ e : DomainId, ds e = false → m.domain e = s.domain e) ∧
      ((∀ c : ChannelId, (s.channel c).state ≠ .moving) →
        m.port 0 =
          { s.port 0 with
            waiting := none, commandWord := commandWord 0x4F tgt up, taken := (s.port 0).params, outcome := .done
            results := words (field (handles.filter fun h => (s.window h).isSome).length 0)
              (field owned.toNat 0) 0 0 } ∧
        (∀ h : Handle, m.window h = none) ∧
        (∀ c : ChannelId, ChannelAtReset (m.channel c) ∧ (m.channel c).line = (s.channel c).line) ∧
        (m.domain 0).held = 0 ∧ (m.domain 0).clearing = false ∧
        (∀ i : SlotId, (m.domain 0).slots[i] = ((s.domain 0).slots[i]).map fun r => { r with homes := 0 }) ∧
        ∀ d : DomainId, d ≠ 0 → (m.domain d).state = .closed ∧
          ((s.domain d).state = .opened → (m.domain d).quota = 0 ∧ HoldsNothing (m.domain d))) ∧
      ∀ (c : ChannelId) (d : DomainId), (s.channel c).state = .moving → (s.channel c).owner = some d →
        m.port 0 =
          { s.port 0 with
            waiting := some (.masterClear (handles.filter fun h => (s.window h).isSome).length owned)
            commandWord := commandWord 0x4F tgt up, taken := (s.port 0).params } ∧
        AwaitsUnit s m d ∧
        ∀ e : DomainId, ds e = true → (m.domain e).clearing = true ∧ (e ≠ 0 → (m.domain e).state = .closing) ∧
          (m.domain e).quota = (s.domain e).quota ∧
          (e ≠ d → (m.domain e).held = 0 ∧ (m.domain e).awaited = 0 ∧
            ∀ i : SlotId, (m.domain e).slots[i] =
              if e = 0 then ((s.domain 0).slots[i]).map fun r => { r with homes := 0 } else none)

/-- The refusals of CLOSE DOMAIN, READ DOMAIN, ASSIGN CHANNEL, UNASSIGN CHANNEL and SET CLOCK from domain 0, in the order of
R163: BAD-HANDLE, BAD-VALUE, STATE and IN-USE; and READ DOMAIN by any domain of itself is refused BAD-HANDLE for a slot of 4
or more (R103, R149 to R152, R164). -/
def Obligations.SupervisorRefusals : Prop :=
  (∀ (s : State) (a : Access) (d : DomainId) (tgt : BitVec 8) (up : BitVec 16), Admits s a d → tgt.toNat = d.val →
    4 ≤ bits (s.port d).params[0] 0 8 → Refused s (.readDomain a tgt up) d .badHandle) ∧
  ∀ (s : State) (a : Access) (tgt : BitVec 8) (up : BitVec 16) (p0 : Word), Admits s a 0 →
    p0 = (s.port 0).params[0] →
    (4 ≤ tgt.toNat →
      Refused s (.closeDomain a tgt up) 0 .badHandle ∧ Refused s (.readDomain a tgt up) 0 .badHandle) ∧
    (12 ≤ tgt.toNat →
      Refused s (.assignChannel a tgt up) 0 .badHandle ∧ Refused s (.unassignChannel a tgt up) 0 .badHandle) ∧
    (4 ≤ bits p0 0 8 →
      Refused s (.readDomain a tgt up) 0 .badHandle ∧ Refused s (.assignChannel a tgt up) 0 .badHandle) ∧
    ((¬ (bits p0 0 8 = 0 ∨ (8 ≤ bits p0 0 8 ∧ bits p0 0 8 ≤ 24)) ∨ 15 < bits p0 8 8) →
      Refused s (.setClock a tgt up) 0 .badValue) ∧
    (∀ x : DomainId, tgt.toNat = x.val → (x = 0 ∨ (s.domain x).state ≠ .opened) →
      Refused s (.closeDomain a tgt up) 0 .state) ∧
    ∀ c : ChannelId, tgt.toNat = c.val →
      (∀ x : DomainId, bits p0 0 8 = x.val →
        ((s.domain x).state ≠ .opened → Refused s (.assignChannel a tgt up) 0 .state) ∧
        ((s.domain x).state = .opened → (s.channel c).owner ≠ none → Refused s (.assignChannel a tgt up) 0 .inUse)) ∧
      ((s.channel c).owner = none → Refused s (.unassignChannel a tgt up) 0 .state) ∧
      ((s.channel c).owner ≠ none → ((s.channel c).state ≠ .off ∨ (s.channel c).chain ≠ []) →
        Refused s (.unassignChannel a tgt up) 0 .inUse)

/-- PAUSE ARBITER sets the run state; SET ARBITER replaces the four policies, or is refused BAD-VALUE when one of the four
codes is 2 or 3; SET CLOCK sets the exponent and the unit limit, with the divider running on under a running exponent given
again and at 0 otherwise. Each reports its record as it then stands and changes nothing else (R62 to R64, R103). -/
def Obligations.ArbiterAndClockSettings : Prop :=
  ∀ (s : State) (a : Access) (tgt : BitVec 8) (up : BitVec 16) (p0 : Word), Admits s a 0 →
    p0 = (s.port 0).params[0] →
    (∃ t, exec (.pauseArbiter a tgt up) s = .next t ∧ t.arbiter = { s.arbiter with run := .paused } ∧
      Answers s t 0 (commandWord 0x48 tgt up) .done (arbiterLayout t.arbiter) ∧
      Frame s t [.arbiter, .ports]) ∧
    ((∃ k : ClassId, 2 ≤ bits p0 (2 * k.val) 2) → Refused s (.setArbiter a tgt up) 0 .badValue) ∧
    ((∀ k : ClassId, bits p0 (2 * k.val) 2 ≤ 1) →
      ∃ t, exec (.setArbiter a tgt up) s = .next t ∧
        (∀ k : ClassId, t.arbiter.policies[k] = if bits p0 (2 * k.val) 2 = 0 then .fixed else .rotate) ∧
        t.arbiter.run = s.arbiter.run ∧ t.arbiter.pointers = s.arbiter.pointers ∧
        t.arbiter.holder = s.arbiter.holder ∧
        Answers s t 0 (commandWord 0x47 tgt up) .done (arbiterLayout t.arbiter) ∧
        Frame s t [.arbiter, .ports]) ∧
    (∀ e u : Nat, e = bits p0 0 8 → u = bits p0 8 8 → (e = 0 ∨ (8 ≤ e ∧ e ≤ 24)) → u ≤ 15 →
      ∃ t, exec (.setClock a tgt up) s = .next t ∧
        t.clock =
          { exponent := e
            unitLimit := u
            divider := if e ≠ 0 ∧ e = s.clock.exponent then s.clock.divider else 0 } ∧
        Answers s t 0 (commandWord 0x4A tgt up) .done (words (field e 0 ||| field u 8) 0 0 0) ∧
        Frame s t [.clock, .ports])

/-- RUN ARBITER sets the run state to RUN, and the grant decision follows in the same change; the results show the arbiter
after it, with the holder that this decision has made (the model's choice, log 26). Taken while the run state is RUN it
changes nothing but the port's completion, no grant decision being due (R54, R62, R63). -/
def Obligations.RunArbiter : Prop :=
  ∀ (s : State) (a : Access) (tgt : BitVec 8) (up : BitVec 16), Admits s a 0 →
    ∃ m, exec (.runArbiter a tgt up) s = .next m.grantDecision ∧ m.arbiter = { s.arbiter with run := .run } ∧
      Answers s m 0 (commandWord 0x49 tgt up) .done (arbiterLayout m.grantDecision.arbiter) ∧
      Frame s m [.arbiter, .ports] ∧
      (s.arbiter.run = .run → NoGrantDue s → m.grantDecision = m ∧ Frame s m [.ports])

/-- The grant decision does nothing while the port is held, the arbiter is PAUSED or no channel is PENDING. Otherwise it
grants one channel: of the lowest class with a PENDING channel, the lowest-numbered one under FIXED, and under ROTATE the
first met counting up from the channel after the pointer, which then names it. The winner is MOVING with burst count 0, it
holds the port, and a unit is issued against its head, on the lanes of R69's table (R54 to R56, R68, R69). -/
def Obligations.GrantDecision : Prop :=
  ∀ s : State,
    ((s.arbiter.holder ≠ none ∨ s.arbiter.run = .paused ∨ ∀ c : ChannelId, (s.channel c).state ≠ .pending) →
      s.grantDecision = s) ∧
    (s.arbiter.holder = none → s.arbiter.run = .run → (∃ c : ChannelId, (s.channel c).state = .pending) →
      ∃ (k : ClassId) (c : ChannelId),
        (s.channel c).state = .pending ∧ (s.channel c).cls = k ∧
        (∀ x : ChannelId, (s.channel x).state = .pending → k ≤ (s.channel x).cls) ∧
        (s.arbiter.policies[k] = .fixed →
          ∀ x : ChannelId, (s.channel x).state = .pending → (s.channel x).cls = k → c ≤ x) ∧
        (s.arbiter.policies[k] = .rotate →
          ∀ x : ChannelId, (s.channel x).state = .pending → (s.channel x).cls = k →
            (c - s.arbiter.pointers[k] - 1).val ≤ (x - s.arbiter.pointers[k] - 1).val) ∧
        s.grantDecision.arbiter =
          { s.arbiter with
            holder := some c
            pointers :=
              if s.arbiter.policies[k] = .rotate then s.arbiter.pointers.set k c else s.arbiter.pointers } ∧
        s.grantDecision.channel c = { s.channel c with state := .moving, burst := 0 } ∧
        OnlyChannel s s.grantDecision c ∧ Frame s s.grantDecision [.channels, .arbiter, .memory] ∧
        s.grantDecision.memory.stale = s.memory.stale ∧
        ∀ (h : Handle) (w : Window), (s.channel c).chain.head? = some h → s.window h = some w →
          s.grantDecision.memory.record = some
            { channel := c, window := h, direction := w.direction, address := w.address, size := w.size
              lanes := unitLanes w.address w.size, last := w.remaining == 1
              phase := if w.direction = .check then .strobe else .busWait, age := 0 } ∧
          LanesFor w.address w.size (unitLanes w.address w.size))

/-! ## The host port -/

/-- The first three checks of R163 at an aperture that is not busy: every command of a CLOSING or CLOSED domain completes
CLOSED; in an OPEN domain an unlisted code is refused UNKNOWN; and a supervisor command from domain 1, 2 or 3 is refused
PRIVILEGE, but for READ DOMAIN naming the caller (R139, R161, R163, R175). -/
def Obligations.FirstThreeChecks : Prop :=
  ∀ (s : State) (a : Access) (d : DomainId), Reaches s a d → (s.port d).busy = false →
    ((s.domain d).state ≠ .opened → ∀ (i : Instr) (w : Word), encodeCommandWord i = some (a, w) →
      ∃ t, exec i s = .next t ∧ Answers s t d w .closed noResults ∧ Frame s t [.ports]) ∧
    ((s.domain d).state = .opened →
      (∀ w : Word,
        bits w 0 8 ∉ [0x10, 0x11, 0x12, 0x13, 0x14, 0x15, 0x16, 0x17, 0x20, 0x21, 0x22, 0x23, 0x24, 0x25, 0x26, 0x27, 0x28,
          0x30, 0x31, 0x32, 0x40, 0x41, 0x42, 0x43, 0x44, 0x45, 0x46, 0x47, 0x48, 0x49, 0x4A, 0x4B, 0x4F] →
        Refused s (.unknownCommand a w) d .unknown) ∧
      (d ≠ 0 → ∀ (tgt : BitVec 8) (up : BitVec 16),
        (∀ mk ∈ [Instr.openDomain, .closeDomain, .setQuota, .setRange, .clearRange, .assignChannel, .unassignChannel,
          .setArbiter, .pauseArbiter, .runArbiter, .setClock, .masterClear], Refused s (mk a tgt up) d .privilege) ∧
        (tgt.toNat ≠ d.val → Refused s (.readDomain a tgt up) d .privilege)))

/-- A COMMAND write of any word while the port is busy is discarded: OVERRUN is set, and neither the command word, the
parameters taken, the command in progress nor anything else changes (R161, R168). -/
def Obligations.BusyPortDiscards : Prop :=
  ∀ (s : State) (a : Access) (d : DomainId) (i : Instr) (w : Word), Reaches s a d → (s.port d).busy = true →
    (encodeCommandWord i = some (a, w) ∨ i = .discardedWrite a w) →
    ∃ t, exec i s = .next t ∧ t.port d = { s.port d with overrun := true } ∧ OnlyPort s t d ∧ Frame s t [.ports]

/-- The aperture of an access is the one chip select asserted with one strobe; a write that reaches none changes nothing,
and a read with several chip selects returns 0 and has no effect (R158). Both strobes together with several chip selects
drive no word (the model's reading, log 10), and a read that drives none leaves readData, the model's own field (log 9). -/
def Obligations.ApertureSelection : Prop :=
  (∀ (a : Access) (d : DomainId), apertureOf a = some d ↔
    a.bothStrobes = false ∧ ∀ k : DomainId, a.chipSelects.getLsbD k.val = decide (k = d)) ∧
  ∀ (s : State) (a : Access), apertureOf a = none →
    (∀ (i : Instr) (w : Word), encodeCommandWord i = some (a, w) → exec i s = .next s) ∧
    (∀ w : Word, exec (.discardedWrite a w) s = .next s) ∧
    (∀ (r : BitVec 4) (v : Word), exec (.registerWrite a r v) s = .next s) ∧
    (s.resetAsserted = false → a.bothStrobes = false → a.chipSelects ≠ 0 →
      exec (.statusRead a) s = .next { s with readData := 0 } ∧
      exec (.acknowledge a) s = .next { s with readData := 0 }) ∧
    (a.bothStrobes = true ∨ a.chipSelects = 0 → exec (.statusRead a) s = .next s ∧ exec (.acknowledge a) s = .next s)

/-- A write to PARAM0 to PARAM3 stores the word in that register alone, in every state of the port and of the domain; a
write to RESULT, STATUS, ACKNOWLEDGE, PEEK or offsets 30H to 3CH changes nothing; a STATUS read returns BUSY, OVERRUN, the
NOTE level, the domain state and OUTCOME, and clears OVERRUN alone (R158, R160, R169); the word is in the model's own field
readData (log 9). The reads that have no row of their own return, as a function of the state (the model's form, log 8), the
last accepted command word, the PARAM word last written, the RESULT word of the last completion, and 0 at offsets 30H to 3CH
(R158, R160, R170). -/
def Obligations.RegisterAccesses : Prop :=
  (∀ (s : State) (a : Access) (d : DomainId), Reaches s a d →
    (∀ (k : Fin 4) (r : BitVec 4) (v : Word), r.toNat = k.val + 1 →
      ∃ t, exec (.registerWrite a r v) s = .next t ∧
        t.port d = { s.port d with params := (s.port d).params.set k v } ∧ OnlyPort s t d ∧ Frame s t [.ports]) ∧
    (∀ (r : BitVec 4) (v : Word), 5 ≤ r.toNat → exec (.registerWrite a r v) s = .next s) ∧
    ∃ t, exec (.statusRead a) s = .next t ∧
      t.readData =
        flag (s.port d).busy 0 ||| flag (s.port d).overrun 1 ||| flag (s.note d) 2 |||
          field (s.domain d).state.code 4 ||| field (s.port d).outcome.code 8 ∧
      t.port d = { s.port d with overrun := false } ∧ OnlyPort s t d ∧ Frame s t [.ports, .readData]) ∧
  ∀ (s : State) (d : DomainId) (r : BitVec 4),
    (r.toNat = 0 → s.readRegister d r = (s.port d).commandWord) ∧
    (∀ k : Fin 4, r.toNat = k.val + 1 → s.readRegister d r = (s.port d).params[k]) ∧
    (∀ k : Fin 4, r.toNat = k.val + 5 → s.readRegister d r = (s.port d).results[k]) ∧
    (12 ≤ r.toNat → s.readRegister d r = 0)

/-- The label of a COMMAND write does not matter: DISCARDED_WRITE and a register write to COMMAND of any word act as the
command that the word names (the model's reading, log 7), and the word's target and reserved bits reach it whole (R161,
R175). -/
def Obligations.CommandWordLabels : Prop :=
  ∀ (s : State) (a : Access) (w : Word),
    exec (.discardedWrite a w) s = exec (decodeCommandWord a w) s ∧
    exec (.registerWrite a 0 w) s = exec (decodeCommandWord a w) s

/-- The command word and the command agree: the word of every well-formed host command decodes to it, with every target and
every reserved bit kept, and every 32-bit word is the word of the command it decodes to (R175). -/
def Obligations.CommandWordRoundTrip : Prop :=
  (∀ (i : Instr) (a : Access) (w : Word), i.wellFormed = true → encodeCommandWord i = some (a, w) →
    decodeCommandWord a w = i) ∧
  ∀ (a : Access) (w : Word), encodeCommandWord (decodeCommandWord a w) = some (a, w) ∧
    (decodeCommandWord a w).wellFormed = true

/-! ## Events on the lines -/

/-- A change of level on RQn is recorded in every state: an assertion sets starved on an IDLE channel and makes an unmasked
ARMED one PENDING; a withdrawal makes a PENDING channel without a soft request ARMED; the grant decision of R54 follows. A
line that stands at the level already makes no event (R29, R30, R32; log 11). -/
def Obligations.RequestEvents : Prop :=
  ∀ (s : State) (c : ChannelId) (ch : Channel), s.resetAsserted = false → s.channel c = ch → ChannelSound s c →
    (ch.line = true → exec (.requestAssertion c) s = .next { s with rq := s.rq.set c true }) ∧
    (ch.line = false → exec (.requestWithdrawal c) s = .next { s with rq := s.rq.set c false }) ∧
    (ch.line = false → ∃ m, exec (.requestAssertion c) s = .next m.grantDecision ∧ m.rq = s.rq.set c true ∧
      m.channel c =
        { ch with
          line := true
          starved := if ch.state = .idle then true else ch.starved
          state := if ch.state = .armed ∧ ch.masked = false then .pending else ch.state } ∧
      OnlyChannel s m c ∧ Frame s m [.channels, .rq]) ∧
    (ch.line = true → ∃ m, exec (.requestWithdrawal c) s = .next m.grantDecision ∧ m.rq = s.rq.set c false ∧
      m.channel c =
        { ch with line := false, state := if ch.state = .pending ∧ ch.soft = false then .armed else ch.state } ∧
      OnlyChannel s m c ∧ Frame s m [.channels, .rq])

/-- MBGNT opens the cycle of a bus unit that waits with MBREQ asserted, driving its address, lanes and direction, and is not
used otherwise; an MDONE or MERR that ends no cycle counts nothing, clears the stale cycle flag and lets a waiting unit
request the bus (R69, R71, R73, R75, R84). A strobe end without a strobe does nothing (the model's choice, log 24). -/
def Obligations.BusEvents : Prop :=
  ∀ s : State, s.resetAsserted = false →
    (∀ u, s.memory.record = some u → u.direction ≠ .check → u.phase = .busWait → s.memory.stale = false →
      ∃ t, exec .mbgnt s = .next t ∧ t.memory = { s.memory with record := some { u with phase := .busCycle } } ∧
        t.ma = some u.address ∧ t.mbe = some u.lanes ∧ t.mwr = some (u.direction == .inbound) ∧ t.mbreq = true ∧
        Frame s t [.memory]) ∧
    ((∀ u, s.memory.record = some u → u.direction = .check ∨ u.phase ≠ .busWait ∨ s.memory.stale = true) →
      exec .mbgnt s = .next s) ∧
    ((∀ u, s.memory.record = some u → u.phase ≠ .busCycle) → ∀ i ∈ [Instr.mdone, .merr],
      ∃ t, exec i s = .next t ∧ t.memory = { s.memory with stale := false } ∧ Frame s t [.memory] ∧
        ∀ u, s.memory.record = some u → u.direction ≠ .check → u.phase = .busWait → t.mbreq = true) ∧
    ((∀ u, s.memory.record = some u → u.phase ≠ .strobe) → exec .strobeEnd s = .next s)

/-- A completion OK of the ACTIVE head's unit, by MDONE or by the end of its strobe, under which every condition of R57
holds: the unit is counted on the window and on the channel, and the next unit is issued in the same change at the new
address, on the lanes of R69's table, the port never free between them. That no state lies between the withdrawal of AKn
and its next assertion is the model's choice (log 27) (R57, R68, R69, R77, R80). -/
def Obligations.UnitGoesOn : Prop :=
  ∀ (s : State) (u : UnitRecord) (i : Instr) (w : Window) (ch : Channel), UnitEnds s u i none →
    s.window u.window = some w → w.state = .active → (s.domain w.owner).clearing = false → s.channel u.channel = ch →
    ch.chain.head? = some u.window → continues s.arbiter ch w →
    ∃ t, exec i s = .next t ∧ t.window u.window = some (afterOk w) ∧ OnlyWindow s t u.window ∧
      t.channel u.channel = { ch with moved := ch.moved + 1, burst := ch.burst + 1, soft := false } ∧
      OnlyChannel s t u.channel ∧
      t.memory =
        { s.memory with
          record := some
            { channel := u.channel, window := u.window, direction := w.direction, address := w.nextAddress
              size := w.size, lanes := unitLanes w.nextAddress w.size, last := w.remaining == 2
              phase := if w.direction = .check then .strobe else .busWait, age := 0 } } ∧
      LanesFor w.nextAddress w.size (unitLanes w.nextAddress w.size) ∧ Frame s t [.windows, .channels, .memory]

/-- A completion OK of the ACTIVE head's unit under which a condition of R57 fails: the unit is counted; a window brought to
0 is reloaded, or SPENT and off the chain with the next window ACTIVE; SPENT or LAP is raised; the channel becomes OFF with
a disable pending and settles otherwise; the port is free, a waiting DISABLE CHANNEL completes, and the grant decision
follows (R36, R42, R57, R58, R77 to R80). -/
def Obligations.UnitYields : Prop :=
  ∀ (s : State) (u : UnitRecord) (i : Instr) (w : Window) (ch : Channel) (rest : List Handle), UnitEnds s u i none →
    s.window u.window = some w → w.state = .active → (s.domain w.owner).clearing = false → s.channel u.channel = ch →
    ch.state = .moving → ¬ continues s.arbiter ch w →
    rest = (if (afterOk w).state = .spent then ch.chain.filter (fun x => x != u.window) else ch.chain) →
    ∃ m, exec i s = .next m.grantDecision ∧
      m.window u.window = some
        { afterOk w with channel := if (afterOk w).state = .spent then none else w.channel } ∧
      HeadActivated s m u.window rest ∧
      m.channel u.channel =
        (if ch.disablePending then
          { ch with
            chain := rest, moved := ch.moved + 1, burst := ch.burst + 1, soft := false, state := .off
            disablePending := false }
         else settlesTo { ch with chain := rest, moved := ch.moved + 1, burst := ch.burst + 1, soft := false }) ∧
      OnlyChannel s m u.channel ∧ m.arbiter = { s.arbiter with holder := none } ∧
      m.memory = { s.memory with record := none } ∧ NoticesAfter s m u.window (causeOfOk w) ∧
      (∀ d : DomainId, m.port d = portAtEnd (s.port d) u (remainingLayout m u.window)) ∧
      Frame s m [.windows, .causes, .notices, .channels, .arbiter, .memory, .ports]

/-- A bus error or a timeout of the ACTIVE head's unit: the window is FAILED with that fault, its remaining and address as
they stood, and off its chain, and its cause is raised; the channel is STALLED with its stall record, the next window a
LINKED head; with a disable pending it is OFF with no stall and the next window ACTIVE, and the waiting DISABLE CHANNEL
completes. The port is free and the grant decision follows; a timeout in BUS-CYCLE sets the stale cycle flag (R37, R42,
R59, R81, R83). The timeout is that of the row UNIT_TIMEOUT (the
model's reading, log 4). -/
def Obligations.HeadFails : Prop :=
  ∀ (s : State) (u : UnitRecord) (i : Instr) (f : Failure) (w : Window) (ch : Channel) (rest : List Handle),
    UnitEnds s u i (some f) → s.window u.window = some w → w.state = .active →
    (s.domain w.owner).clearing = false → s.channel u.channel = ch →
    rest = ch.chain.filter (fun x => x != u.window) →
    ∃ m, exec i s = .next m.grantDecision ∧
      m.window u.window = some { w with state := .failed, channel := none, fault := some f } ∧
      OnlyChannel s m u.channel ∧ m.arbiter = { s.arbiter with holder := none } ∧
      m.memory = { record := none, stale := staleAfter s u (some f) } ∧ NoticesAfter s m u.window (some f.cause) ∧
      Frame s m [.windows, .causes, .notices, .channels, .arbiter, .memory, .ports] ∧
      (ch.disablePending = false →
        OnlyWindow s m u.window ∧ m.ports = s.ports ∧
        m.channel u.channel =
          { ch with
            chain := rest, soft := false, state := .stalled, stall := some { window := u.window, cause := f } }) ∧
      (ch.disablePending = true →
        HeadActivated s m u.window rest ∧
        m.channel u.channel = { ch with chain := rest, soft := false, state := .off, disablePending := false } ∧
        ∀ d : DomainId, m.port d = portAtEnd (s.port d) u (remainingLayout m u.window))

/-- The end of a DRAINING window's unit: counted on an OK completion, the window becomes PARKED, reloaded and PARKED, or
SPENT, and FAILED on a bus error or a timeout, with its cause raised; the channel is not stalled: its LINKED head becomes
ACTIVE and it settles, or is OFF with a disable pending; the port is free, every command that waits on the unit completes
DONE, each at its own port, and the grant decision follows (R42, R46, R80, R90, R94 to R98). The timeout is that of the row
UNIT_TIMEOUT (the model's reading, log 4). -/
def Obligations.DrainEnds : Prop :=
  ∀ (s : State) (u : UnitRecord) (i : Instr) (f : Option Failure) (w : Window) (ch counted : Channel),
    UnitEnds s u i f → s.window u.window = some w → w.state = .draining → (s.domain w.owner).clearing = false →
    s.channel u.channel = ch → ch.state = .moving →
    counted =
      (if f = none then { ch with moved := ch.moved + 1, burst := ch.burst + 1, soft := false }
       else { ch with soft := false }) →
    ∃ m, exec i s = .next m.grantDecision ∧
      m.window u.window = some
        (match f with
         | none =>
           { afterOk w with state := if (afterOk w).state = .spent then .spent else .parked, channel := none }
         | some x => { w with state := .failed, channel := none, fault := some x }) ∧
      HeadActivated s m u.window ch.chain ∧
      m.channel u.channel =
        (if ch.disablePending then { counted with state := .off, disablePending := false } else settlesTo counted) ∧
      OnlyChannel s m u.channel ∧ m.arbiter = { s.arbiter with holder := none } ∧
      m.memory = { record := none, stale := staleAfter s u f } ∧
      NoticesAfter s m u.window (match f with | none => causeOfOk w | some x => some x.cause) ∧
      (∀ d : DomainId, m.port d = portAtEnd (s.port d) u (remainingLayout m u.window)) ∧
      Frame s m [.windows, .causes, .notices, .channels, .arbiter, .memory, .ports]

/-- The end of a unit whose window's owner is being torn down, whatever the outcome: the window is FREE, not counted, with no
cause raised; its channel is OFF and unowned with reset settings; the port is free; the teardown is complete: every domain
of 1 to 3 under it is CLOSED with quota 0 and holds nothing, no slot present; domain 0 is OPEN with its quota and, if it was
under it, holds no window and keeps its slots with homes count 0; the close or MASTER CLEAR of domain 0 completes DONE with
its results; the grant decision follows (R52, R80, R101, R154, R157). The timeout is that of the row UNIT_TIMEOUT (the model's
reading, log 4). -/
def Obligations.TornDownUnitEnds : Prop :=
  ∀ (s : State) (u : UnitRecord) (i : Instr) (f : Option Failure) (w : Window),
    UnitEnds s u i f → s.window u.window = some w → (s.domain w.owner).clearing = true → StructureSound s →
    CountsAgree s →
    ∃ m, exec i s = .next m.grantDecision ∧ m.window u.window = none ∧ OnlyWindow s m u.window ∧
      m.pendingCauses u.window = 0 ∧ OnlyCauses s m u.window ∧ OnlyNotice s m w.owner ∧
      ChannelAtReset (m.channel u.channel) ∧ (m.channel u.channel).line = (s.channel u.channel).line ∧
      OnlyChannel s m u.channel ∧ m.arbiter = { s.arbiter with holder := none } ∧
      m.memory = { record := none, stale := staleAfter s u f } ∧
      (∀ d : DomainId, (m.domain d).clearing = false ∧
        ((s.domain d).clearing = false → m.domain d = s.domain d) ∧
        (d ≠ 0 → (s.domain d).clearing = true →
          (m.domain d).state = .closed ∧ (m.domain d).quota = 0 ∧ HoldsNothing (m.domain d)) ∧
        (d = 0 → (m.domain d).state = .opened ∧ (m.domain d).quota = (s.domain d).quota ∧
          ((s.domain d).clearing = true → (m.domain d).held = 0 ∧ (m.domain d).awaited = 0 ∧
            ∀ i : SlotId, (m.domain d).slots[i] = ((s.domain d).slots[i]).map fun r => { r with homes := 0 }))) ∧
      (∀ (n : Nat) (cs : ChannelSet),
        ((s.port 0).waiting = some (.close n cs) ∨ (s.port 0).waiting = some (.masterClear n cs)) →
        m.port 0 =
          { s.port 0 with waiting := none, outcome := .done, results := words (field n 0) (field cs.toNat 0) 0 0 }) ∧
      OnlyPort s m 0 ∧
      Frame s m [.windows, .causes, .notices, .channels, .domains, .arbiter, .memory, .ports]

/-- A lease tick, delivered while the exponent is not 0: the countdown is taken first, judged on the state as it stood, then
the memory port ages its unit; a unit whose age reaches the unit limit times out on the state the countdown left (R82, R83,
R104, R106, R107, R109). A tick taken at any value of the divider, and the expiry of a counted lease of 0, are the model's
choices (logs 5 and 15). -/
def Obligations.LeaseTick : Prop :=
  ∀ (s : State) (out : Handle → Bool), s.resetAsserted = false → s.clock.exponent ≠ 0 →
    (∀ h : Handle, out h = true ↔ LeaseRunsOut s h) →
    ∃ m, CountedDown s m out ∧
      ((∀ u, s.memory.record = some u → ¬ UnitAges s u) → exec .leaseTick s = .next m) ∧
      ∀ u, s.memory.record = some u → UnitAges s u →
        (u.age + 1 < s.clock.unitLimit →
          exec .leaseTick s =
            .next { m with memory := { s.memory with record := some { u with age := u.age + 1 } } }) ∧
        (s.clock.unitLimit ≤ u.age + 1 → exec .leaseTick s = exec .unitTimeout m)

/-- The shares of a tick as commands of their own (the model's reading of the table's rows, logs 3 and 4): the expiry of one
ACTIVE head whose lease a tick would bring to 0 fails it and stalls its channel, its soft request, mask, line and counts
kept, and raises EXPIRED; an expiry or a timeout that a tick would not bring does nothing, and neither does a tick at
exponent 0 (R104, R107, R109). The expiry of a counted lease of 0 is log 15. -/
def Obligations.TickShares : Prop :=
  ∀ s : State, s.resetAsserted = false →
    (∀ (h : Handle) (w : Window) (c : ChannelId), s.clock.exponent ≠ 0 → ChainsAgree s → s.window h = some w →
      LeaseRunsOut s h → w.channel = some c →
      ∃ t, exec (.leaseExpiry h) s = .next t ∧ t.window h = some (expiredWindow w) ∧ OnlyWindow s t h ∧
        t.channel c =
          { s.channel c with
            state := .stalled, chain := (s.channel c).chain.filter fun x => x != h
            stall := some { window := h, cause := .expired } } ∧
        OnlyChannel s t c ∧ NoticesAfter s t h (some .expired) ∧ Frame s t [.windows, .channels, .causes, .notices]) ∧
    (∀ h : Handle, (s.clock.exponent = 0 ∨ ¬ LeaseRunsOut s h) → exec (.leaseExpiry h) s = .next s) ∧
    ((s.clock.exponent = 0 ∨ ∀ u, s.memory.record = some u → ¬ UnitAges s u ∨ u.age + 1 < s.clock.unitLimit) →
      exec .unitTimeout s = .next s) ∧
    (s.clock.exponent = 0 → exec .leaseTick s = .next s)

/-! ## What every step keeps -/

/-- The invariants hold of the state after hardware reset, with RQ withdrawn in it (the model's choice, log 1). -/
def Obligations.InvariantsAtReset : Prop :=
  WindowsSound State.reset ∧ CountsAgree State.reset ∧ WindowsHomed State.reset ∧ NoticesAgree State.reset ∧
    StructureSound State.reset ∧ DomainsSound State.reset ∧ ClockInRange State.reset

/-- Every step keeps every live window sound: remaining between 0 and count and 0 exactly when SPENT, the current address
the one R4 gives for it, laps saturating and 0 without reload, the lease within its limit and not run out while ACTIVE, a
fault exactly when FAILED, the extent in the address space and aligned (R2, R4, R5, R7, R8, R13, R107, R108). -/
def Obligations.WindowsSoundKept : Prop := KeptByStep WindowsSound

/-- Every step keeps the held count of every domain the number of its live windows, the homes count of every slot the number
of those homed in it, and every live window inside a present slot of its owner that grants the right it needs (R3, R142,
R143). -/
def Obligations.CountsKept : Prop := KeptByStep fun s => CountsAgree s ∧ WindowsHomed s

/-- Every step keeps the agreement of the notice unit: a window has pending causes only when it is live with a numeric
level, it then stands exactly once in the list of that level in its owner's record, and an entry in service names a live
window of the domain at its level (R118, R119). -/
def Obligations.NoticesKept : Prop := KeptByStep NoticesAgree

/-- Every step keeps the structure of the part: the chains and the windows agree, a channel is MOVING exactly while it
holds the port, each channel's head and request stand as its state says, the unit in flight is its ACTIVE head's or a
DRAINING window's with its record as written at issue and no cycle open under the stale cycle flag, no channel is PENDING
while the port is free and the arbiter runs, every waiting command waits on that unit, a teardown in progress holds nothing
else of its domains, no slot without a home among it, a channel without an owner has its reset settings, and the reset values stand while RESETN is asserted
(R33, R35, R51, R53, R54, R67 to R69, R71, R73, R74, R84, R93, R137, R152, R153, R161, R167, R179). -/
def Obligations.StructureKept : Prop := KeptByStep StructureSound

/-- Every step keeps every domain within its quota and every CLOSED domain without quota and ranges, along with the
structure and the counts they rest on: a clearing domain of 1 to 3 has no present slot without a home, so that the end of its
one unit leaves none present (R143, R146, R152 to R154). -/
def Obligations.QuotasKept : Prop := KeptByStep fun s => StructureSound s ∧ CountsAgree s ∧ DomainsSound s

/-- Every step keeps the lease clock and the unit age in their ranges (R67, R103, R104). -/
def Obligations.ClockKept : Prop := KeptByStep ClockInRange

/-- Every address the memory port presents lies inside the extent of a live window of the channel's owner, and the whole unit
does; direction and size are that window's; and the extent lies in that window's home range, which grants the right the
direction needs (R3, R4, R68). -/
def Obligations.UnitInsideHomeRange : Prop :=
  ∀ (s : State) (u : UnitRecord), WindowsSound s → WindowsHomed s → StructureSound s → s.memory.record = some u →
    ∃ w r, s.window u.window = some w ∧ (s.channel u.channel).owner = some w.owner ∧ w.state ≠ .spent ∧
      u.direction = w.direction ∧ u.size = w.size ∧ u.address = w.address ∧ LanesFor u.address u.size u.lanes ∧
      w.setting.lowest ≤ u.address.toNat ∧ (u.address.toNat + u.size.bytes - 1 : Int) ≤ w.setting.highest ∧
      (s.domain w.owner).slots[w.home] = some r ∧ (r.first * 4096 : Int) ≤ w.setting.lowest ∧
      w.setting.highest < ((r.last + 1) * 4096 : Int) ∧
      (u.direction = .inbound → r.write = true) ∧ (u.direction = .outbound → r.read = true)

/-- The words READ WINDOW part 0 returns give back, read as OPEN WINDOW's parameters, the very setting the window holds: no
field of the record is lost or mixed with another in the layouts (R25, R177). -/
def Obligations.SettingReadBack : Prop :=
  ∀ w : Window, WindowSound w → decodeSetting (windowPart0 w) = some w.setting

end
end

