-- ==== Sys2Proof/Laws/State.lean ====
section
/-! SUPPORT. One lemma per field per update of the state, so that no later proof unfolds a record update. -/

namespace Sys2Proof.Machine

/-! ## Reading a vector that was written at one place or built place by place -/

theorem getElem_set_fin {α : Type} {n : Nat} (v : Vector α n) (i j : Fin n) (x : α) :
    (v.set i x)[j] = if j = i then x else v[j] := by
  simp only [Fin.getElem_fin, Vector.getElem_set, Fin.ext_iff, eq_comm]

theorem getElem_ofFn_fin {α : Type} {n : Nat} (f : Fin n → α) (j : Fin n) : (Vector.ofFn f)[j] = f j := by
  simp

/-! ## setWindow -/

@[simp] theorem State.setWindow_causes (s : State) (x : Handle) (w : Option Window) : (s.setWindow x w).causes = s.causes := rfl
@[simp] theorem State.setWindow_channels (s : State) (x : Handle) (w : Option Window) : (s.setWindow x w).channels = s.channels := rfl
@[simp] theorem State.setWindow_domains (s : State) (x : Handle) (w : Option Window) : (s.setWindow x w).domains = s.domains := rfl
@[simp] theorem State.setWindow_notices (s : State) (x : Handle) (w : Option Window) : (s.setWindow x w).notices = s.notices := rfl
@[simp] theorem State.setWindow_ports (s : State) (x : Handle) (w : Option Window) : (s.setWindow x w).ports = s.ports := rfl
@[simp] theorem State.setWindow_arbiter (s : State) (x : Handle) (w : Option Window) : (s.setWindow x w).arbiter = s.arbiter := rfl
@[simp] theorem State.setWindow_memory (s : State) (x : Handle) (w : Option Window) : (s.setWindow x w).memory = s.memory := rfl
@[simp] theorem State.setWindow_clock (s : State) (x : Handle) (w : Option Window) : (s.setWindow x w).clock = s.clock := rfl
@[simp] theorem State.setWindow_rq (s : State) (x : Handle) (w : Option Window) : (s.setWindow x w).rq = s.rq := rfl
@[simp] theorem State.setWindow_resetAsserted (s : State) (x : Handle) (w : Option Window) : (s.setWindow x w).resetAsserted = s.resetAsserted := rfl
@[simp] theorem State.setWindow_readData (s : State) (x : Handle) (w : Option Window) : (s.setWindow x w).readData = s.readData := rfl
@[simp] theorem State.setWindow_pending (s : State) (x : Handle) (w : Option Window) : (s.setWindow x w).pending = s.pending := rfl
@[simp] theorem State.setWindow_window (s : State) (x : Handle) (w : Option Window) (h : Handle) :
    (s.setWindow x w).window h = if h = x then w else s.window h := getElem_set_fin _ _ _ _
@[simp] theorem State.setWindow_pendingCauses (s : State) (x : Handle) (w : Option Window) (h : Handle) :
    (s.setWindow x w).pendingCauses h = s.pendingCauses h := rfl
@[simp] theorem State.setWindow_channel (s : State) (x : Handle) (w : Option Window) (c : ChannelId) :
    (s.setWindow x w).channel c = s.channel c := rfl
@[simp] theorem State.setWindow_domain (s : State) (x : Handle) (w : Option Window) (d : DomainId) :
    (s.setWindow x w).domain d = s.domain d := rfl
@[simp] theorem State.setWindow_notice (s : State) (x : Handle) (w : Option Window) (d : DomainId) :
    (s.setWindow x w).notice d = s.notice d := rfl
@[simp] theorem State.setWindow_port (s : State) (x : Handle) (w : Option Window) (d : DomainId) :
    (s.setWindow x w).port d = s.port d := rfl
@[simp] theorem State.setWindow_inFlight (s : State) (x : Handle) (w : Option Window) (h : Handle) :
    (s.setWindow x w).inFlight h = s.inFlight h := rfl

/-! ## updWindow -/

@[simp] theorem State.updWindow_causes (s : State) (x : Handle) (f : Window → Window) : (s.updWindow x f).causes = s.causes := rfl
@[simp] theorem State.updWindow_channels (s : State) (x : Handle) (f : Window → Window) : (s.updWindow x f).channels = s.channels := rfl
@[simp] theorem State.updWindow_domains (s : State) (x : Handle) (f : Window → Window) : (s.updWindow x f).domains = s.domains := rfl
@[simp] theorem State.updWindow_notices (s : State) (x : Handle) (f : Window → Window) : (s.updWindow x f).notices = s.notices := rfl
@[simp] theorem State.updWindow_ports (s : State) (x : Handle) (f : Window → Window) : (s.updWindow x f).ports = s.ports := rfl
@[simp] theorem State.updWindow_arbiter (s : State) (x : Handle) (f : Window → Window) : (s.updWindow x f).arbiter = s.arbiter := rfl
@[simp] theorem State.updWindow_memory (s : State) (x : Handle) (f : Window → Window) : (s.updWindow x f).memory = s.memory := rfl
@[simp] theorem State.updWindow_clock (s : State) (x : Handle) (f : Window → Window) : (s.updWindow x f).clock = s.clock := rfl
@[simp] theorem State.updWindow_rq (s : State) (x : Handle) (f : Window → Window) : (s.updWindow x f).rq = s.rq := rfl
@[simp] theorem State.updWindow_resetAsserted (s : State) (x : Handle) (f : Window → Window) : (s.updWindow x f).resetAsserted = s.resetAsserted := rfl
@[simp] theorem State.updWindow_readData (s : State) (x : Handle) (f : Window → Window) : (s.updWindow x f).readData = s.readData := rfl
@[simp] theorem State.updWindow_pending (s : State) (x : Handle) (f : Window → Window) : (s.updWindow x f).pending = s.pending := rfl
@[simp] theorem State.updWindow_window (s : State) (x : Handle) (f : Window → Window) (h : Handle) :
    (s.updWindow x f).window h = if h = x then (s.window x).map f else s.window h := getElem_set_fin _ _ _ _
@[simp] theorem State.updWindow_pendingCauses (s : State) (x : Handle) (f : Window → Window) (h : Handle) :
    (s.updWindow x f).pendingCauses h = s.pendingCauses h := rfl
@[simp] theorem State.updWindow_channel (s : State) (x : Handle) (f : Window → Window) (c : ChannelId) :
    (s.updWindow x f).channel c = s.channel c := rfl
@[simp] theorem State.updWindow_domain (s : State) (x : Handle) (f : Window → Window) (d : DomainId) :
    (s.updWindow x f).domain d = s.domain d := rfl
@[simp] theorem State.updWindow_notice (s : State) (x : Handle) (f : Window → Window) (d : DomainId) :
    (s.updWindow x f).notice d = s.notice d := rfl
@[simp] theorem State.updWindow_port (s : State) (x : Handle) (f : Window → Window) (d : DomainId) :
    (s.updWindow x f).port d = s.port d := rfl
@[simp] theorem State.updWindow_inFlight (s : State) (x : Handle) (f : Window → Window) (h : Handle) :
    (s.updWindow x f).inFlight h = s.inFlight h := rfl

/-! ## mapWindows -/

@[simp] theorem State.mapWindows_causes (s : State) (f : Handle → Option Window → Option Window) : (s.mapWindows f).causes = s.causes := by simp only [State.mapWindows]
@[simp] theorem State.mapWindows_channels (s : State) (f : Handle → Option Window → Option Window) : (s.mapWindows f).channels = s.channels := by simp only [State.mapWindows]
@[simp] theorem State.mapWindows_domains (s : State) (f : Handle → Option Window → Option Window) : (s.mapWindows f).domains = s.domains := by simp only [State.mapWindows]
@[simp] theorem State.mapWindows_notices (s : State) (f : Handle → Option Window → Option Window) : (s.mapWindows f).notices = s.notices := by simp only [State.mapWindows]
@[simp] theorem State.mapWindows_ports (s : State) (f : Handle → Option Window → Option Window) : (s.mapWindows f).ports = s.ports := by simp only [State.mapWindows]
@[simp] theorem State.mapWindows_arbiter (s : State) (f : Handle → Option Window → Option Window) : (s.mapWindows f).arbiter = s.arbiter := by simp only [State.mapWindows]
@[simp] theorem State.mapWindows_memory (s : State) (f : Handle → Option Window → Option Window) : (s.mapWindows f).memory = s.memory := by simp only [State.mapWindows]
@[simp] theorem State.mapWindows_clock (s : State) (f : Handle → Option Window → Option Window) : (s.mapWindows f).clock = s.clock := by simp only [State.mapWindows]
@[simp] theorem State.mapWindows_rq (s : State) (f : Handle → Option Window → Option Window) : (s.mapWindows f).rq = s.rq := by simp only [State.mapWindows]
@[simp] theorem State.mapWindows_resetAsserted (s : State) (f : Handle → Option Window → Option Window) : (s.mapWindows f).resetAsserted = s.resetAsserted := by simp only [State.mapWindows]
@[simp] theorem State.mapWindows_readData (s : State) (f : Handle → Option Window → Option Window) : (s.mapWindows f).readData = s.readData := by simp only [State.mapWindows]
@[simp] theorem State.mapWindows_pending (s : State) (f : Handle → Option Window → Option Window) : (s.mapWindows f).pending = s.pending := by simp only [State.mapWindows]
@[simp] theorem State.mapWindows_window (s : State) (f : Handle → Option Window → Option Window) (h : Handle) :
    (s.mapWindows f).window h = f h (s.window h) := by
  simp only [State.mapWindows, State.window, getElem_ofFn_fin]
@[simp] theorem State.mapWindows_pendingCauses (s : State) (f : Handle → Option Window → Option Window) (h : Handle) :
    (s.mapWindows f).pendingCauses h = s.pendingCauses h := by simp only [State.mapWindows, State.pendingCauses]
@[simp] theorem State.mapWindows_channel (s : State) (f : Handle → Option Window → Option Window) (c : ChannelId) :
    (s.mapWindows f).channel c = s.channel c := by simp only [State.mapWindows, State.channel]
@[simp] theorem State.mapWindows_domain (s : State) (f : Handle → Option Window → Option Window) (d : DomainId) :
    (s.mapWindows f).domain d = s.domain d := by simp only [State.mapWindows, State.domain]
@[simp] theorem State.mapWindows_notice (s : State) (f : Handle → Option Window → Option Window) (d : DomainId) :
    (s.mapWindows f).notice d = s.notice d := by simp only [State.mapWindows, State.notice]
@[simp] theorem State.mapWindows_port (s : State) (f : Handle → Option Window → Option Window) (d : DomainId) :
    (s.mapWindows f).port d = s.port d := by simp only [State.mapWindows, State.port]
@[simp] theorem State.mapWindows_inFlight (s : State) (f : Handle → Option Window → Option Window) (h : Handle) :
    (s.mapWindows f).inFlight h = s.inFlight h := by simp only [State.mapWindows, State.inFlight]

/-! ## setCauses -/

@[simp] theorem State.setCauses_windows (s : State) (x : Handle) (k : CauseSet) : (s.setCauses x k).windows = s.windows := rfl
@[simp] theorem State.setCauses_channels (s : State) (x : Handle) (k : CauseSet) : (s.setCauses x k).channels = s.channels := rfl
@[simp] theorem State.setCauses_domains (s : State) (x : Handle) (k : CauseSet) : (s.setCauses x k).domains = s.domains := rfl
@[simp] theorem State.setCauses_notices (s : State) (x : Handle) (k : CauseSet) : (s.setCauses x k).notices = s.notices := rfl
@[simp] theorem State.setCauses_ports (s : State) (x : Handle) (k : CauseSet) : (s.setCauses x k).ports = s.ports := rfl
@[simp] theorem State.setCauses_arbiter (s : State) (x : Handle) (k : CauseSet) : (s.setCauses x k).arbiter = s.arbiter := rfl
@[simp] theorem State.setCauses_memory (s : State) (x : Handle) (k : CauseSet) : (s.setCauses x k).memory = s.memory := rfl
@[simp] theorem State.setCauses_clock (s : State) (x : Handle) (k : CauseSet) : (s.setCauses x k).clock = s.clock := rfl
@[simp] theorem State.setCauses_rq (s : State) (x : Handle) (k : CauseSet) : (s.setCauses x k).rq = s.rq := rfl
@[simp] theorem State.setCauses_resetAsserted (s : State) (x : Handle) (k : CauseSet) : (s.setCauses x k).resetAsserted = s.resetAsserted := rfl
@[simp] theorem State.setCauses_readData (s : State) (x : Handle) (k : CauseSet) : (s.setCauses x k).readData = s.readData := rfl
@[simp] theorem State.setCauses_pending (s : State) (x : Handle) (k : CauseSet) : (s.setCauses x k).pending = s.pending := rfl
@[simp] theorem State.setCauses_window (s : State) (x : Handle) (k : CauseSet) (h : Handle) :
    (s.setCauses x k).window h = s.window h := rfl
@[simp] theorem State.setCauses_pendingCauses (s : State) (x : Handle) (k : CauseSet) (h : Handle) :
    (s.setCauses x k).pendingCauses h = if h = x then k else s.pendingCauses h := getElem_set_fin _ _ _ _
@[simp] theorem State.setCauses_channel (s : State) (x : Handle) (k : CauseSet) (c : ChannelId) :
    (s.setCauses x k).channel c = s.channel c := rfl
@[simp] theorem State.setCauses_domain (s : State) (x : Handle) (k : CauseSet) (d : DomainId) :
    (s.setCauses x k).domain d = s.domain d := rfl
@[simp] theorem State.setCauses_notice (s : State) (x : Handle) (k : CauseSet) (d : DomainId) :
    (s.setCauses x k).notice d = s.notice d := rfl
@[simp] theorem State.setCauses_port (s : State) (x : Handle) (k : CauseSet) (d : DomainId) :
    (s.setCauses x k).port d = s.port d := rfl
@[simp] theorem State.setCauses_inFlight (s : State) (x : Handle) (k : CauseSet) (h : Handle) :
    (s.setCauses x k).inFlight h = s.inFlight h := rfl

/-! ## mapCauses -/

@[simp] theorem State.mapCauses_windows (s : State) (f : Handle → CauseSet → CauseSet) : (s.mapCauses f).windows = s.windows := by simp only [State.mapCauses]
@[simp] theorem State.mapCauses_channels (s : State) (f : Handle → CauseSet → CauseSet) : (s.mapCauses f).channels = s.channels := by simp only [State.mapCauses]
@[simp] theorem State.mapCauses_domains (s : State) (f : Handle → CauseSet → CauseSet) : (s.mapCauses f).domains = s.domains := by simp only [State.mapCauses]
@[simp] theorem State.mapCauses_notices (s : State) (f : Handle → CauseSet → CauseSet) : (s.mapCauses f).notices = s.notices := by simp only [State.mapCauses]
@[simp] theorem State.mapCauses_ports (s : State) (f : Handle → CauseSet → CauseSet) : (s.mapCauses f).ports = s.ports := by simp only [State.mapCauses]
@[simp] theorem State.mapCauses_arbiter (s : State) (f : Handle → CauseSet → CauseSet) : (s.mapCauses f).arbiter = s.arbiter := by simp only [State.mapCauses]
@[simp] theorem State.mapCauses_memory (s : State) (f : Handle → CauseSet → CauseSet) : (s.mapCauses f).memory = s.memory := by simp only [State.mapCauses]
@[simp] theorem State.mapCauses_clock (s : State) (f : Handle → CauseSet → CauseSet) : (s.mapCauses f).clock = s.clock := by simp only [State.mapCauses]
@[simp] theorem State.mapCauses_rq (s : State) (f : Handle → CauseSet → CauseSet) : (s.mapCauses f).rq = s.rq := by simp only [State.mapCauses]
@[simp] theorem State.mapCauses_resetAsserted (s : State) (f : Handle → CauseSet → CauseSet) : (s.mapCauses f).resetAsserted = s.resetAsserted := by simp only [State.mapCauses]
@[simp] theorem State.mapCauses_readData (s : State) (f : Handle → CauseSet → CauseSet) : (s.mapCauses f).readData = s.readData := by simp only [State.mapCauses]
@[simp] theorem State.mapCauses_pending (s : State) (f : Handle → CauseSet → CauseSet) : (s.mapCauses f).pending = s.pending := by simp only [State.mapCauses]
@[simp] theorem State.mapCauses_window (s : State) (f : Handle → CauseSet → CauseSet) (h : Handle) :
    (s.mapCauses f).window h = s.window h := by simp only [State.mapCauses, State.window]
@[simp] theorem State.mapCauses_pendingCauses (s : State) (f : Handle → CauseSet → CauseSet) (h : Handle) :
    (s.mapCauses f).pendingCauses h = f h (s.pendingCauses h) := by
  simp only [State.mapCauses, State.pendingCauses, getElem_ofFn_fin]
@[simp] theorem State.mapCauses_channel (s : State) (f : Handle → CauseSet → CauseSet) (c : ChannelId) :
    (s.mapCauses f).channel c = s.channel c := by simp only [State.mapCauses, State.channel]
@[simp] theorem State.mapCauses_domain (s : State) (f : Handle → CauseSet → CauseSet) (d : DomainId) :
    (s.mapCauses f).domain d = s.domain d := by simp only [State.mapCauses, State.domain]
@[simp] theorem State.mapCauses_notice (s : State) (f : Handle → CauseSet → CauseSet) (d : DomainId) :
    (s.mapCauses f).notice d = s.notice d := by simp only [State.mapCauses, State.notice]
@[simp] theorem State.mapCauses_port (s : State) (f : Handle → CauseSet → CauseSet) (d : DomainId) :
    (s.mapCauses f).port d = s.port d := by simp only [State.mapCauses, State.port]
@[simp] theorem State.mapCauses_inFlight (s : State) (f : Handle → CauseSet → CauseSet) (h : Handle) :
    (s.mapCauses f).inFlight h = s.inFlight h := by simp only [State.mapCauses, State.inFlight]

/-! ## updChannel -/

@[simp] theorem State.updChannel_windows (s : State) (x : ChannelId) (f : Channel → Channel) : (s.updChannel x f).windows = s.windows := rfl
@[simp] theorem State.updChannel_causes (s : State) (x : ChannelId) (f : Channel → Channel) : (s.updChannel x f).causes = s.causes := rfl
@[simp] theorem State.updChannel_domains (s : State) (x : ChannelId) (f : Channel → Channel) : (s.updChannel x f).domains = s.domains := rfl
@[simp] theorem State.updChannel_notices (s : State) (x : ChannelId) (f : Channel → Channel) : (s.updChannel x f).notices = s.notices := rfl
@[simp] theorem State.updChannel_ports (s : State) (x : ChannelId) (f : Channel → Channel) : (s.updChannel x f).ports = s.ports := rfl
@[simp] theorem State.updChannel_arbiter (s : State) (x : ChannelId) (f : Channel → Channel) : (s.updChannel x f).arbiter = s.arbiter := rfl
@[simp] theorem State.updChannel_memory (s : State) (x : ChannelId) (f : Channel → Channel) : (s.updChannel x f).memory = s.memory := rfl
@[simp] theorem State.updChannel_clock (s : State) (x : ChannelId) (f : Channel → Channel) : (s.updChannel x f).clock = s.clock := rfl
@[simp] theorem State.updChannel_rq (s : State) (x : ChannelId) (f : Channel → Channel) : (s.updChannel x f).rq = s.rq := rfl
@[simp] theorem State.updChannel_resetAsserted (s : State) (x : ChannelId) (f : Channel → Channel) : (s.updChannel x f).resetAsserted = s.resetAsserted := rfl
@[simp] theorem State.updChannel_readData (s : State) (x : ChannelId) (f : Channel → Channel) : (s.updChannel x f).readData = s.readData := rfl
@[simp] theorem State.updChannel_pending (s : State) (x : ChannelId) (f : Channel → Channel) : (s.updChannel x f).pending = s.pending := rfl
@[simp] theorem State.updChannel_window (s : State) (x : ChannelId) (f : Channel → Channel) (h : Handle) :
    (s.updChannel x f).window h = s.window h := rfl
@[simp] theorem State.updChannel_pendingCauses (s : State) (x : ChannelId) (f : Channel → Channel) (h : Handle) :
    (s.updChannel x f).pendingCauses h = s.pendingCauses h := rfl
@[simp] theorem State.updChannel_channel (s : State) (x : ChannelId) (f : Channel → Channel) (c : ChannelId) :
    (s.updChannel x f).channel c = if c = x then f (s.channel x) else s.channel c := getElem_set_fin _ _ _ _
@[simp] theorem State.updChannel_domain (s : State) (x : ChannelId) (f : Channel → Channel) (d : DomainId) :
    (s.updChannel x f).domain d = s.domain d := rfl
@[simp] theorem State.updChannel_notice (s : State) (x : ChannelId) (f : Channel → Channel) (d : DomainId) :
    (s.updChannel x f).notice d = s.notice d := rfl
@[simp] theorem State.updChannel_port (s : State) (x : ChannelId) (f : Channel → Channel) (d : DomainId) :
    (s.updChannel x f).port d = s.port d := rfl
@[simp] theorem State.updChannel_inFlight (s : State) (x : ChannelId) (f : Channel → Channel) (h : Handle) :
    (s.updChannel x f).inFlight h = s.inFlight h := rfl

/-! ## mapChannels -/

@[simp] theorem State.mapChannels_windows (s : State) (f : ChannelId → Channel → Channel) : (s.mapChannels f).windows = s.windows := by simp only [State.mapChannels]
@[simp] theorem State.mapChannels_causes (s : State) (f : ChannelId → Channel → Channel) : (s.mapChannels f).causes = s.causes := by simp only [State.mapChannels]
@[simp] theorem State.mapChannels_domains (s : State) (f : ChannelId → Channel → Channel) : (s.mapChannels f).domains = s.domains := by simp only [State.mapChannels]
@[simp] theorem State.mapChannels_notices (s : State) (f : ChannelId → Channel → Channel) : (s.mapChannels f).notices = s.notices := by simp only [State.mapChannels]
@[simp] theorem State.mapChannels_ports (s : State) (f : ChannelId → Channel → Channel) : (s.mapChannels f).ports = s.ports := by simp only [State.mapChannels]
@[simp] theorem State.mapChannels_arbiter (s : State) (f : ChannelId → Channel → Channel) : (s.mapChannels f).arbiter = s.arbiter := by simp only [State.mapChannels]
@[simp] theorem State.mapChannels_memory (s : State) (f : ChannelId → Channel → Channel) : (s.mapChannels f).memory = s.memory := by simp only [State.mapChannels]
@[simp] theorem State.mapChannels_clock (s : State) (f : ChannelId → Channel → Channel) : (s.mapChannels f).clock = s.clock := by simp only [State.mapChannels]
@[simp] theorem State.mapChannels_rq (s : State) (f : ChannelId → Channel → Channel) : (s.mapChannels f).rq = s.rq := by simp only [State.mapChannels]
@[simp] theorem State.mapChannels_resetAsserted (s : State) (f : ChannelId → Channel → Channel) : (s.mapChannels f).resetAsserted = s.resetAsserted := by simp only [State.mapChannels]
@[simp] theorem State.mapChannels_readData (s : State) (f : ChannelId → Channel → Channel) : (s.mapChannels f).readData = s.readData := by simp only [State.mapChannels]
@[simp] theorem State.mapChannels_pending (s : State) (f : ChannelId → Channel → Channel) : (s.mapChannels f).pending = s.pending := by simp only [State.mapChannels]
@[simp] theorem State.mapChannels_window (s : State) (f : ChannelId → Channel → Channel) (h : Handle) :
    (s.mapChannels f).window h = s.window h := by simp only [State.mapChannels, State.window]
@[simp] theorem State.mapChannels_pendingCauses (s : State) (f : ChannelId → Channel → Channel) (h : Handle) :
    (s.mapChannels f).pendingCauses h = s.pendingCauses h := by simp only [State.mapChannels, State.pendingCauses]
@[simp] theorem State.mapChannels_channel (s : State) (f : ChannelId → Channel → Channel) (c : ChannelId) :
    (s.mapChannels f).channel c = f c (s.channel c) := by
  simp only [State.mapChannels, State.channel, getElem_ofFn_fin]
@[simp] theorem State.mapChannels_domain (s : State) (f : ChannelId → Channel → Channel) (d : DomainId) :
    (s.mapChannels f).domain d = s.domain d := by simp only [State.mapChannels, State.domain]
@[simp] theorem State.mapChannels_notice (s : State) (f : ChannelId → Channel → Channel) (d : DomainId) :
    (s.mapChannels f).notice d = s.notice d := by simp only [State.mapChannels, State.notice]
@[simp] theorem State.mapChannels_port (s : State) (f : ChannelId → Channel → Channel) (d : DomainId) :
    (s.mapChannels f).port d = s.port d := by simp only [State.mapChannels, State.port]
@[simp] theorem State.mapChannels_inFlight (s : State) (f : ChannelId → Channel → Channel) (h : Handle) :
    (s.mapChannels f).inFlight h = s.inFlight h := by simp only [State.mapChannels, State.inFlight]

/-! ## updDomain -/

@[simp] theorem State.updDomain_windows (s : State) (x : DomainId) (f : Domain → Domain) : (s.updDomain x f).windows = s.windows := rfl
@[simp] theorem State.updDomain_causes (s : State) (x : DomainId) (f : Domain → Domain) : (s.updDomain x f).causes = s.causes := rfl
@[simp] theorem State.updDomain_channels (s : State) (x : DomainId) (f : Domain → Domain) : (s.updDomain x f).channels = s.channels := rfl
@[simp] theorem State.updDomain_notices (s : State) (x : DomainId) (f : Domain → Domain) : (s.updDomain x f).notices = s.notices := rfl
@[simp] theorem State.updDomain_ports (s : State) (x : DomainId) (f : Domain → Domain) : (s.updDomain x f).ports = s.ports := rfl
@[simp] theorem State.updDomain_arbiter (s : State) (x : DomainId) (f : Domain → Domain) : (s.updDomain x f).arbiter = s.arbiter := rfl
@[simp] theorem State.updDomain_memory (s : State) (x : DomainId) (f : Domain → Domain) : (s.updDomain x f).memory = s.memory := rfl
@[simp] theorem State.updDomain_clock (s : State) (x : DomainId) (f : Domain → Domain) : (s.updDomain x f).clock = s.clock := rfl
@[simp] theorem State.updDomain_rq (s : State) (x : DomainId) (f : Domain → Domain) : (s.updDomain x f).rq = s.rq := rfl
@[simp] theorem State.updDomain_resetAsserted (s : State) (x : DomainId) (f : Domain → Domain) : (s.updDomain x f).resetAsserted = s.resetAsserted := rfl
@[simp] theorem State.updDomain_readData (s : State) (x : DomainId) (f : Domain → Domain) : (s.updDomain x f).readData = s.readData := rfl
@[simp] theorem State.updDomain_pending (s : State) (x : DomainId) (f : Domain → Domain) : (s.updDomain x f).pending = s.pending := rfl
@[simp] theorem State.updDomain_window (s : State) (x : DomainId) (f : Domain → Domain) (h : Handle) :
    (s.updDomain x f).window h = s.window h := rfl
@[simp] theorem State.updDomain_pendingCauses (s : State) (x : DomainId) (f : Domain → Domain) (h : Handle) :
    (s.updDomain x f).pendingCauses h = s.pendingCauses h := rfl
@[simp] theorem State.updDomain_channel (s : State) (x : DomainId) (f : Domain → Domain) (c : ChannelId) :
    (s.updDomain x f).channel c = s.channel c := rfl
@[simp] theorem State.updDomain_domain (s : State) (x : DomainId) (f : Domain → Domain) (d : DomainId) :
    (s.updDomain x f).domain d = if d = x then f (s.domain x) else s.domain d := getElem_set_fin _ _ _ _
@[simp] theorem State.updDomain_notice (s : State) (x : DomainId) (f : Domain → Domain) (d : DomainId) :
    (s.updDomain x f).notice d = s.notice d := rfl
@[simp] theorem State.updDomain_port (s : State) (x : DomainId) (f : Domain → Domain) (d : DomainId) :
    (s.updDomain x f).port d = s.port d := rfl
@[simp] theorem State.updDomain_inFlight (s : State) (x : DomainId) (f : Domain → Domain) (h : Handle) :
    (s.updDomain x f).inFlight h = s.inFlight h := rfl

/-! ## mapDomains -/

@[simp] theorem State.mapDomains_windows (s : State) (f : DomainId → Domain → Domain) : (s.mapDomains f).windows = s.windows := by simp only [State.mapDomains]
@[simp] theorem State.mapDomains_causes (s : State) (f : DomainId → Domain → Domain) : (s.mapDomains f).causes = s.causes := by simp only [State.mapDomains]
@[simp] theorem State.mapDomains_channels (s : State) (f : DomainId → Domain → Domain) : (s.mapDomains f).channels = s.channels := by simp only [State.mapDomains]
@[simp] theorem State.mapDomains_notices (s : State) (f : DomainId → Domain → Domain) : (s.mapDomains f).notices = s.notices := by simp only [State.mapDomains]
@[simp] theorem State.mapDomains_ports (s : State) (f : DomainId → Domain → Domain) : (s.mapDomains f).ports = s.ports := by simp only [State.mapDomains]
@[simp] theorem State.mapDomains_arbiter (s : State) (f : DomainId → Domain → Domain) : (s.mapDomains f).arbiter = s.arbiter := by simp only [State.mapDomains]
@[simp] theorem State.mapDomains_memory (s : State) (f : DomainId → Domain → Domain) : (s.mapDomains f).memory = s.memory := by simp only [State.mapDomains]
@[simp] theorem State.mapDomains_clock (s : State) (f : DomainId → Domain → Domain) : (s.mapDomains f).clock = s.clock := by simp only [State.mapDomains]
@[simp] theorem State.mapDomains_rq (s : State) (f : DomainId → Domain → Domain) : (s.mapDomains f).rq = s.rq := by simp only [State.mapDomains]
@[simp] theorem State.mapDomains_resetAsserted (s : State) (f : DomainId → Domain → Domain) : (s.mapDomains f).resetAsserted = s.resetAsserted := by simp only [State.mapDomains]
@[simp] theorem State.mapDomains_readData (s : State) (f : DomainId → Domain → Domain) : (s.mapDomains f).readData = s.readData := by simp only [State.mapDomains]
@[simp] theorem State.mapDomains_pending (s : State) (f : DomainId → Domain → Domain) : (s.mapDomains f).pending = s.pending := by simp only [State.mapDomains]
@[simp] theorem State.mapDomains_window (s : State) (f : DomainId → Domain → Domain) (h : Handle) :
    (s.mapDomains f).window h = s.window h := by simp only [State.mapDomains, State.window]
@[simp] theorem State.mapDomains_pendingCauses (s : State) (f : DomainId → Domain → Domain) (h : Handle) :
    (s.mapDomains f).pendingCauses h = s.pendingCauses h := by simp only [State.mapDomains, State.pendingCauses]
@[simp] theorem State.mapDomains_channel (s : State) (f : DomainId → Domain → Domain) (c : ChannelId) :
    (s.mapDomains f).channel c = s.channel c := by simp only [State.mapDomains, State.channel]
@[simp] theorem State.mapDomains_domain (s : State) (f : DomainId → Domain → Domain) (d : DomainId) :
    (s.mapDomains f).domain d = f d (s.domain d) := by
  simp only [State.mapDomains, State.domain, getElem_ofFn_fin]
@[simp] theorem State.mapDomains_notice (s : State) (f : DomainId → Domain → Domain) (d : DomainId) :
    (s.mapDomains f).notice d = s.notice d := by simp only [State.mapDomains, State.notice]
@[simp] theorem State.mapDomains_port (s : State) (f : DomainId → Domain → Domain) (d : DomainId) :
    (s.mapDomains f).port d = s.port d := by simp only [State.mapDomains, State.port]
@[simp] theorem State.mapDomains_inFlight (s : State) (f : DomainId → Domain → Domain) (h : Handle) :
    (s.mapDomains f).inFlight h = s.inFlight h := by simp only [State.mapDomains, State.inFlight]

/-! ## updNotice -/

@[simp] theorem State.updNotice_windows (s : State) (x : DomainId) (f : NoticeRecord → NoticeRecord) : (s.updNotice x f).windows = s.windows := rfl
@[simp] theorem State.updNotice_causes (s : State) (x : DomainId) (f : NoticeRecord → NoticeRecord) : (s.updNotice x f).causes = s.causes := rfl
@[simp] theorem State.updNotice_channels (s : State) (x : DomainId) (f : NoticeRecord → NoticeRecord) : (s.updNotice x f).channels = s.channels := rfl
@[simp] theorem State.updNotice_domains (s : State) (x : DomainId) (f : NoticeRecord → NoticeRecord) : (s.updNotice x f).domains = s.domains := rfl
@[simp] theorem State.updNotice_ports (s : State) (x : DomainId) (f : NoticeRecord → NoticeRecord) : (s.updNotice x f).ports = s.ports := rfl
@[simp] theorem State.updNotice_arbiter (s : State) (x : DomainId) (f : NoticeRecord → NoticeRecord) : (s.updNotice x f).arbiter = s.arbiter := rfl
@[simp] theorem State.updNotice_memory (s : State) (x : DomainId) (f : NoticeRecord → NoticeRecord) : (s.updNotice x f).memory = s.memory := rfl
@[simp] theorem State.updNotice_clock (s : State) (x : DomainId) (f : NoticeRecord → NoticeRecord) : (s.updNotice x f).clock = s.clock := rfl
@[simp] theorem State.updNotice_rq (s : State) (x : DomainId) (f : NoticeRecord → NoticeRecord) : (s.updNotice x f).rq = s.rq := rfl
@[simp] theorem State.updNotice_resetAsserted (s : State) (x : DomainId) (f : NoticeRecord → NoticeRecord) : (s.updNotice x f).resetAsserted = s.resetAsserted := rfl
@[simp] theorem State.updNotice_readData (s : State) (x : DomainId) (f : NoticeRecord → NoticeRecord) : (s.updNotice x f).readData = s.readData := rfl
@[simp] theorem State.updNotice_pending (s : State) (x : DomainId) (f : NoticeRecord → NoticeRecord) : (s.updNotice x f).pending = s.pending := rfl
@[simp] theorem State.updNotice_window (s : State) (x : DomainId) (f : NoticeRecord → NoticeRecord) (h : Handle) :
    (s.updNotice x f).window h = s.window h := rfl
@[simp] theorem State.updNotice_pendingCauses (s : State) (x : DomainId) (f : NoticeRecord → NoticeRecord) (h : Handle) :
    (s.updNotice x f).pendingCauses h = s.pendingCauses h := rfl
@[simp] theorem State.updNotice_channel (s : State) (x : DomainId) (f : NoticeRecord → NoticeRecord) (c : ChannelId) :
    (s.updNotice x f).channel c = s.channel c := rfl
@[simp] theorem State.updNotice_domain (s : State) (x : DomainId) (f : NoticeRecord → NoticeRecord) (d : DomainId) :
    (s.updNotice x f).domain d = s.domain d := rfl
@[simp] theorem State.updNotice_notice (s : State) (x : DomainId) (f : NoticeRecord → NoticeRecord) (d : DomainId) :
    (s.updNotice x f).notice d = if d = x then f (s.notice x) else s.notice d := getElem_set_fin _ _ _ _
@[simp] theorem State.updNotice_port (s : State) (x : DomainId) (f : NoticeRecord → NoticeRecord) (d : DomainId) :
    (s.updNotice x f).port d = s.port d := rfl
@[simp] theorem State.updNotice_inFlight (s : State) (x : DomainId) (f : NoticeRecord → NoticeRecord) (h : Handle) :
    (s.updNotice x f).inFlight h = s.inFlight h := rfl

/-! ## mapNotices -/

@[simp] theorem State.mapNotices_windows (s : State) (f : DomainId → NoticeRecord → NoticeRecord) : (s.mapNotices f).windows = s.windows := by simp only [State.mapNotices]
@[simp] theorem State.mapNotices_causes (s : State) (f : DomainId → NoticeRecord → NoticeRecord) : (s.mapNotices f).causes = s.causes := by simp only [State.mapNotices]
@[simp] theorem State.mapNotices_channels (s : State) (f : DomainId → NoticeRecord → NoticeRecord) : (s.mapNotices f).channels = s.channels := by simp only [State.mapNotices]
@[simp] theorem State.mapNotices_domains (s : State) (f : DomainId → NoticeRecord → NoticeRecord) : (s.mapNotices f).domains = s.domains := by simp only [State.mapNotices]
@[simp] theorem State.mapNotices_ports (s : State) (f : DomainId → NoticeRecord → NoticeRecord) : (s.mapNotices f).ports = s.ports := by simp only [State.mapNotices]
@[simp] theorem State.mapNotices_arbiter (s : State) (f : DomainId → NoticeRecord → NoticeRecord) : (s.mapNotices f).arbiter = s.arbiter := by simp only [State.mapNotices]
@[simp] theorem State.mapNotices_memory (s : State) (f : DomainId → NoticeRecord → NoticeRecord) : (s.mapNotices f).memory = s.memory := by simp only [State.mapNotices]
@[simp] theorem State.mapNotices_clock (s : State) (f : DomainId → NoticeRecord → NoticeRecord) : (s.mapNotices f).clock = s.clock := by simp only [State.mapNotices]
@[simp] theorem State.mapNotices_rq (s : State) (f : DomainId → NoticeRecord → NoticeRecord) : (s.mapNotices f).rq = s.rq := by simp only [State.mapNotices]
@[simp] theorem State.mapNotices_resetAsserted (s : State) (f : DomainId → NoticeRecord → NoticeRecord) : (s.mapNotices f).resetAsserted = s.resetAsserted := by simp only [State.mapNotices]
@[simp] theorem State.mapNotices_readData (s : State) (f : DomainId → NoticeRecord → NoticeRecord) : (s.mapNotices f).readData = s.readData := by simp only [State.mapNotices]
@[simp] theorem State.mapNotices_pending (s : State) (f : DomainId → NoticeRecord → NoticeRecord) : (s.mapNotices f).pending = s.pending := by simp only [State.mapNotices]
@[simp] theorem State.mapNotices_window (s : State) (f : DomainId → NoticeRecord → NoticeRecord) (h : Handle) :
    (s.mapNotices f).window h = s.window h := by simp only [State.mapNotices, State.window]
@[simp] theorem State.mapNotices_pendingCauses (s : State) (f : DomainId → NoticeRecord → NoticeRecord) (h : Handle) :
    (s.mapNotices f).pendingCauses h = s.pendingCauses h := by simp only [State.mapNotices, State.pendingCauses]
@[simp] theorem State.mapNotices_channel (s : State) (f : DomainId → NoticeRecord → NoticeRecord) (c : ChannelId) :
    (s.mapNotices f).channel c = s.channel c := by simp only [State.mapNotices, State.channel]
@[simp] theorem State.mapNotices_domain (s : State) (f : DomainId → NoticeRecord → NoticeRecord) (d : DomainId) :
    (s.mapNotices f).domain d = s.domain d := by simp only [State.mapNotices, State.domain]
@[simp] theorem State.mapNotices_notice (s : State) (f : DomainId → NoticeRecord → NoticeRecord) (d : DomainId) :
    (s.mapNotices f).notice d = f d (s.notice d) := by
  simp only [State.mapNotices, State.notice, getElem_ofFn_fin]
@[simp] theorem State.mapNotices_port (s : State) (f : DomainId → NoticeRecord → NoticeRecord) (d : DomainId) :
    (s.mapNotices f).port d = s.port d := by simp only [State.mapNotices, State.port]
@[simp] theorem State.mapNotices_inFlight (s : State) (f : DomainId → NoticeRecord → NoticeRecord) (h : Handle) :
    (s.mapNotices f).inFlight h = s.inFlight h := by simp only [State.mapNotices, State.inFlight]

/-! ## updPort -/

@[simp] theorem State.updPort_windows (s : State) (x : DomainId) (f : Port → Port) : (s.updPort x f).windows = s.windows := rfl
@[simp] theorem State.updPort_causes (s : State) (x : DomainId) (f : Port → Port) : (s.updPort x f).causes = s.causes := rfl
@[simp] theorem State.updPort_channels (s : State) (x : DomainId) (f : Port → Port) : (s.updPort x f).channels = s.channels := rfl
@[simp] theorem State.updPort_domains (s : State) (x : DomainId) (f : Port → Port) : (s.updPort x f).domains = s.domains := rfl
@[simp] theorem State.updPort_notices (s : State) (x : DomainId) (f : Port → Port) : (s.updPort x f).notices = s.notices := rfl
@[simp] theorem State.updPort_arbiter (s : State) (x : DomainId) (f : Port → Port) : (s.updPort x f).arbiter = s.arbiter := rfl
@[simp] theorem State.updPort_memory (s : State) (x : DomainId) (f : Port → Port) : (s.updPort x f).memory = s.memory := rfl
@[simp] theorem State.updPort_clock (s : State) (x : DomainId) (f : Port → Port) : (s.updPort x f).clock = s.clock := rfl
@[simp] theorem State.updPort_rq (s : State) (x : DomainId) (f : Port → Port) : (s.updPort x f).rq = s.rq := rfl
@[simp] theorem State.updPort_resetAsserted (s : State) (x : DomainId) (f : Port → Port) : (s.updPort x f).resetAsserted = s.resetAsserted := rfl
@[simp] theorem State.updPort_readData (s : State) (x : DomainId) (f : Port → Port) : (s.updPort x f).readData = s.readData := rfl
@[simp] theorem State.updPort_pending (s : State) (x : DomainId) (f : Port → Port) : (s.updPort x f).pending = s.pending := rfl
@[simp] theorem State.updPort_window (s : State) (x : DomainId) (f : Port → Port) (h : Handle) :
    (s.updPort x f).window h = s.window h := rfl
@[simp] theorem State.updPort_pendingCauses (s : State) (x : DomainId) (f : Port → Port) (h : Handle) :
    (s.updPort x f).pendingCauses h = s.pendingCauses h := rfl
@[simp] theorem State.updPort_channel (s : State) (x : DomainId) (f : Port → Port) (c : ChannelId) :
    (s.updPort x f).channel c = s.channel c := rfl
@[simp] theorem State.updPort_domain (s : State) (x : DomainId) (f : Port → Port) (d : DomainId) :
    (s.updPort x f).domain d = s.domain d := rfl
@[simp] theorem State.updPort_notice (s : State) (x : DomainId) (f : Port → Port) (d : DomainId) :
    (s.updPort x f).notice d = s.notice d := rfl
@[simp] theorem State.updPort_port (s : State) (x : DomainId) (f : Port → Port) (d : DomainId) :
    (s.updPort x f).port d = if d = x then f (s.port x) else s.port d := getElem_set_fin _ _ _ _
@[simp] theorem State.updPort_inFlight (s : State) (x : DomainId) (f : Port → Port) (h : Handle) :
    (s.updPort x f).inFlight h = s.inFlight h := rfl

/-! ## mapPorts -/

@[simp] theorem State.mapPorts_windows (s : State) (f : DomainId → Port → Port) : (s.mapPorts f).windows = s.windows := by simp only [State.mapPorts]
@[simp] theorem State.mapPorts_causes (s : State) (f : DomainId → Port → Port) : (s.mapPorts f).causes = s.causes := by simp only [State.mapPorts]
@[simp] theorem State.mapPorts_channels (s : State) (f : DomainId → Port → Port) : (s.mapPorts f).channels = s.channels := by simp only [State.mapPorts]
@[simp] theorem State.mapPorts_domains (s : State) (f : DomainId → Port → Port) : (s.mapPorts f).domains = s.domains := by simp only [State.mapPorts]
@[simp] theorem State.mapPorts_notices (s : State) (f : DomainId → Port → Port) : (s.mapPorts f).notices = s.notices := by simp only [State.mapPorts]
@[simp] theorem State.mapPorts_arbiter (s : State) (f : DomainId → Port → Port) : (s.mapPorts f).arbiter = s.arbiter := by simp only [State.mapPorts]
@[simp] theorem State.mapPorts_memory (s : State) (f : DomainId → Port → Port) : (s.mapPorts f).memory = s.memory := by simp only [State.mapPorts]
@[simp] theorem State.mapPorts_clock (s : State) (f : DomainId → Port → Port) : (s.mapPorts f).clock = s.clock := by simp only [State.mapPorts]
@[simp] theorem State.mapPorts_rq (s : State) (f : DomainId → Port → Port) : (s.mapPorts f).rq = s.rq := by simp only [State.mapPorts]
@[simp] theorem State.mapPorts_resetAsserted (s : State) (f : DomainId → Port → Port) : (s.mapPorts f).resetAsserted = s.resetAsserted := by simp only [State.mapPorts]
@[simp] theorem State.mapPorts_readData (s : State) (f : DomainId → Port → Port) : (s.mapPorts f).readData = s.readData := by simp only [State.mapPorts]
@[simp] theorem State.mapPorts_pending (s : State) (f : DomainId → Port → Port) : (s.mapPorts f).pending = s.pending := by simp only [State.mapPorts]
@[simp] theorem State.mapPorts_window (s : State) (f : DomainId → Port → Port) (h : Handle) :
    (s.mapPorts f).window h = s.window h := by simp only [State.mapPorts, State.window]
@[simp] theorem State.mapPorts_pendingCauses (s : State) (f : DomainId → Port → Port) (h : Handle) :
    (s.mapPorts f).pendingCauses h = s.pendingCauses h := by simp only [State.mapPorts, State.pendingCauses]
@[simp] theorem State.mapPorts_channel (s : State) (f : DomainId → Port → Port) (c : ChannelId) :
    (s.mapPorts f).channel c = s.channel c := by simp only [State.mapPorts, State.channel]
@[simp] theorem State.mapPorts_domain (s : State) (f : DomainId → Port → Port) (d : DomainId) :
    (s.mapPorts f).domain d = s.domain d := by simp only [State.mapPorts, State.domain]
@[simp] theorem State.mapPorts_notice (s : State) (f : DomainId → Port → Port) (d : DomainId) :
    (s.mapPorts f).notice d = s.notice d := by simp only [State.mapPorts, State.notice]
@[simp] theorem State.mapPorts_port (s : State) (f : DomainId → Port → Port) (d : DomainId) :
    (s.mapPorts f).port d = f d (s.port d) := by
  simp only [State.mapPorts, State.port, getElem_ofFn_fin]
@[simp] theorem State.mapPorts_inFlight (s : State) (f : DomainId → Port → Port) (h : Handle) :
    (s.mapPorts f).inFlight h = s.inFlight h := by simp only [State.mapPorts, State.inFlight]

/-! ## setHolder -/

@[simp] theorem State.setHolder_windows (s : State) (x : Option ChannelId) : (s.setHolder x).windows = s.windows := rfl
@[simp] theorem State.setHolder_causes (s : State) (x : Option ChannelId) : (s.setHolder x).causes = s.causes := rfl
@[simp] theorem State.setHolder_channels (s : State) (x : Option ChannelId) : (s.setHolder x).channels = s.channels := rfl
@[simp] theorem State.setHolder_domains (s : State) (x : Option ChannelId) : (s.setHolder x).domains = s.domains := rfl
@[simp] theorem State.setHolder_notices (s : State) (x : Option ChannelId) : (s.setHolder x).notices = s.notices := rfl
@[simp] theorem State.setHolder_ports (s : State) (x : Option ChannelId) : (s.setHolder x).ports = s.ports := rfl
@[simp] theorem State.setHolder_arbiter (s : State) (x : Option ChannelId) :
    (s.setHolder x).arbiter = { s.arbiter with holder := x } := rfl
@[simp] theorem State.setHolder_memory (s : State) (x : Option ChannelId) : (s.setHolder x).memory = s.memory := rfl
@[simp] theorem State.setHolder_clock (s : State) (x : Option ChannelId) : (s.setHolder x).clock = s.clock := rfl
@[simp] theorem State.setHolder_rq (s : State) (x : Option ChannelId) : (s.setHolder x).rq = s.rq := rfl
@[simp] theorem State.setHolder_resetAsserted (s : State) (x : Option ChannelId) : (s.setHolder x).resetAsserted = s.resetAsserted := rfl
@[simp] theorem State.setHolder_readData (s : State) (x : Option ChannelId) : (s.setHolder x).readData = s.readData := rfl
@[simp] theorem State.setHolder_pending (s : State) (x : Option ChannelId) : (s.setHolder x).pending = s.pending := rfl
@[simp] theorem State.setHolder_window (s : State) (x : Option ChannelId) (h : Handle) :
    (s.setHolder x).window h = s.window h := rfl
@[simp] theorem State.setHolder_pendingCauses (s : State) (x : Option ChannelId) (h : Handle) :
    (s.setHolder x).pendingCauses h = s.pendingCauses h := rfl
@[simp] theorem State.setHolder_channel (s : State) (x : Option ChannelId) (c : ChannelId) :
    (s.setHolder x).channel c = s.channel c := rfl
@[simp] theorem State.setHolder_domain (s : State) (x : Option ChannelId) (d : DomainId) :
    (s.setHolder x).domain d = s.domain d := rfl
@[simp] theorem State.setHolder_notice (s : State) (x : Option ChannelId) (d : DomainId) :
    (s.setHolder x).notice d = s.notice d := rfl
@[simp] theorem State.setHolder_port (s : State) (x : Option ChannelId) (d : DomainId) :
    (s.setHolder x).port d = s.port d := rfl
@[simp] theorem State.setHolder_inFlight (s : State) (x : Option ChannelId) (h : Handle) :
    (s.setHolder x).inFlight h = s.inFlight h := rfl

/-! ## setRecord -/

@[simp] theorem State.setRecord_windows (s : State) (x : Option UnitRecord) : (s.setRecord x).windows = s.windows := rfl
@[simp] theorem State.setRecord_causes (s : State) (x : Option UnitRecord) : (s.setRecord x).causes = s.causes := rfl
@[simp] theorem State.setRecord_channels (s : State) (x : Option UnitRecord) : (s.setRecord x).channels = s.channels := rfl
@[simp] theorem State.setRecord_domains (s : State) (x : Option UnitRecord) : (s.setRecord x).domains = s.domains := rfl
@[simp] theorem State.setRecord_notices (s : State) (x : Option UnitRecord) : (s.setRecord x).notices = s.notices := rfl
@[simp] theorem State.setRecord_ports (s : State) (x : Option UnitRecord) : (s.setRecord x).ports = s.ports := rfl
@[simp] theorem State.setRecord_arbiter (s : State) (x : Option UnitRecord) : (s.setRecord x).arbiter = s.arbiter := rfl
@[simp] theorem State.setRecord_memory (s : State) (x : Option UnitRecord) :
    (s.setRecord x).memory = { s.memory with record := x } := rfl
@[simp] theorem State.setRecord_clock (s : State) (x : Option UnitRecord) : (s.setRecord x).clock = s.clock := rfl
@[simp] theorem State.setRecord_rq (s : State) (x : Option UnitRecord) : (s.setRecord x).rq = s.rq := rfl
@[simp] theorem State.setRecord_resetAsserted (s : State) (x : Option UnitRecord) : (s.setRecord x).resetAsserted = s.resetAsserted := rfl
@[simp] theorem State.setRecord_readData (s : State) (x : Option UnitRecord) : (s.setRecord x).readData = s.readData := rfl
@[simp] theorem State.setRecord_pending (s : State) (x : Option UnitRecord) : (s.setRecord x).pending = s.pending := rfl
@[simp] theorem State.setRecord_window (s : State) (x : Option UnitRecord) (h : Handle) :
    (s.setRecord x).window h = s.window h := rfl
@[simp] theorem State.setRecord_pendingCauses (s : State) (x : Option UnitRecord) (h : Handle) :
    (s.setRecord x).pendingCauses h = s.pendingCauses h := rfl
@[simp] theorem State.setRecord_channel (s : State) (x : Option UnitRecord) (c : ChannelId) :
    (s.setRecord x).channel c = s.channel c := rfl
@[simp] theorem State.setRecord_domain (s : State) (x : Option UnitRecord) (d : DomainId) :
    (s.setRecord x).domain d = s.domain d := rfl
@[simp] theorem State.setRecord_notice (s : State) (x : Option UnitRecord) (d : DomainId) :
    (s.setRecord x).notice d = s.notice d := rfl
@[simp] theorem State.setRecord_port (s : State) (x : Option UnitRecord) (d : DomainId) :
    (s.setRecord x).port d = s.port d := rfl

/-! ## setStale -/

@[simp] theorem State.setStale_windows (s : State) (x : Bool) : (s.setStale x).windows = s.windows := rfl
@[simp] theorem State.setStale_causes (s : State) (x : Bool) : (s.setStale x).causes = s.causes := rfl
@[simp] theorem State.setStale_channels (s : State) (x : Bool) : (s.setStale x).channels = s.channels := rfl
@[simp] theorem State.setStale_domains (s : State) (x : Bool) : (s.setStale x).domains = s.domains := rfl
@[simp] theorem State.setStale_notices (s : State) (x : Bool) : (s.setStale x).notices = s.notices := rfl
@[simp] theorem State.setStale_ports (s : State) (x : Bool) : (s.setStale x).ports = s.ports := rfl
@[simp] theorem State.setStale_arbiter (s : State) (x : Bool) : (s.setStale x).arbiter = s.arbiter := rfl
@[simp] theorem State.setStale_memory (s : State) (x : Bool) :
    (s.setStale x).memory = { s.memory with stale := x } := rfl
@[simp] theorem State.setStale_clock (s : State) (x : Bool) : (s.setStale x).clock = s.clock := rfl
@[simp] theorem State.setStale_rq (s : State) (x : Bool) : (s.setStale x).rq = s.rq := rfl
@[simp] theorem State.setStale_resetAsserted (s : State) (x : Bool) : (s.setStale x).resetAsserted = s.resetAsserted := rfl
@[simp] theorem State.setStale_readData (s : State) (x : Bool) : (s.setStale x).readData = s.readData := rfl
@[simp] theorem State.setStale_pending (s : State) (x : Bool) : (s.setStale x).pending = s.pending := rfl
@[simp] theorem State.setStale_window (s : State) (x : Bool) (h : Handle) :
    (s.setStale x).window h = s.window h := rfl
@[simp] theorem State.setStale_pendingCauses (s : State) (x : Bool) (h : Handle) :
    (s.setStale x).pendingCauses h = s.pendingCauses h := rfl
@[simp] theorem State.setStale_channel (s : State) (x : Bool) (c : ChannelId) :
    (s.setStale x).channel c = s.channel c := rfl
@[simp] theorem State.setStale_domain (s : State) (x : Bool) (d : DomainId) :
    (s.setStale x).domain d = s.domain d := rfl
@[simp] theorem State.setStale_notice (s : State) (x : Bool) (d : DomainId) :
    (s.setStale x).notice d = s.notice d := rfl
@[simp] theorem State.setStale_port (s : State) (x : Bool) (d : DomainId) :
    (s.setStale x).port d = s.port d := rfl

/-! ## setPin -/

@[simp] theorem State.setPin_windows (s : State) (x : ChannelId) (b : Bool) : (s.setPin x b).windows = s.windows := rfl
@[simp] theorem State.setPin_causes (s : State) (x : ChannelId) (b : Bool) : (s.setPin x b).causes = s.causes := rfl
@[simp] theorem State.setPin_channels (s : State) (x : ChannelId) (b : Bool) : (s.setPin x b).channels = s.channels := rfl
@[simp] theorem State.setPin_domains (s : State) (x : ChannelId) (b : Bool) : (s.setPin x b).domains = s.domains := rfl
@[simp] theorem State.setPin_notices (s : State) (x : ChannelId) (b : Bool) : (s.setPin x b).notices = s.notices := rfl
@[simp] theorem State.setPin_ports (s : State) (x : ChannelId) (b : Bool) : (s.setPin x b).ports = s.ports := rfl
@[simp] theorem State.setPin_arbiter (s : State) (x : ChannelId) (b : Bool) : (s.setPin x b).arbiter = s.arbiter := rfl
@[simp] theorem State.setPin_memory (s : State) (x : ChannelId) (b : Bool) : (s.setPin x b).memory = s.memory := rfl
@[simp] theorem State.setPin_clock (s : State) (x : ChannelId) (b : Bool) : (s.setPin x b).clock = s.clock := rfl
@[simp] theorem State.setPin_rq (s : State) (x : ChannelId) (b : Bool) :
    (s.setPin x b).rq = s.rq.set x b := rfl
@[simp] theorem State.setPin_resetAsserted (s : State) (x : ChannelId) (b : Bool) : (s.setPin x b).resetAsserted = s.resetAsserted := rfl
@[simp] theorem State.setPin_readData (s : State) (x : ChannelId) (b : Bool) : (s.setPin x b).readData = s.readData := rfl
@[simp] theorem State.setPin_pending (s : State) (x : ChannelId) (b : Bool) : (s.setPin x b).pending = s.pending := rfl
@[simp] theorem State.setPin_window (s : State) (x : ChannelId) (b : Bool) (h : Handle) :
    (s.setPin x b).window h = s.window h := rfl
@[simp] theorem State.setPin_pendingCauses (s : State) (x : ChannelId) (b : Bool) (h : Handle) :
    (s.setPin x b).pendingCauses h = s.pendingCauses h := rfl
@[simp] theorem State.setPin_channel (s : State) (x : ChannelId) (b : Bool) (c : ChannelId) :
    (s.setPin x b).channel c = s.channel c := rfl
@[simp] theorem State.setPin_domain (s : State) (x : ChannelId) (b : Bool) (d : DomainId) :
    (s.setPin x b).domain d = s.domain d := rfl
@[simp] theorem State.setPin_notice (s : State) (x : ChannelId) (b : Bool) (d : DomainId) :
    (s.setPin x b).notice d = s.notice d := rfl
@[simp] theorem State.setPin_port (s : State) (x : ChannelId) (b : Bool) (d : DomainId) :
    (s.setPin x b).port d = s.port d := rfl
@[simp] theorem State.setPin_inFlight (s : State) (x : ChannelId) (b : Bool) (h : Handle) :
    (s.setPin x b).inFlight h = s.inFlight h := rfl

end Sys2Proof.Machine
end

