-- ==== Sys2Proof/Laws/Ops.lean ====
section
/-! SUPPORT. What each shared operation can do, said once: the acceptance and completion of a command, the raise of a cause,
the chain, the grant decision, the end of a unit and the teardown. -/

namespace Sys2Proof

/-! ## The command word (R175) -/

theorem getLsbD_commandWord (c t : BitVec 8) (u : BitVec 16) (i : Nat) :
    (commandWord c t u).getLsbD i =
      if i < 8 then c.getLsbD i else if i < 16 then t.getLsbD (i - 8) else u.getLsbD (i - 16) := by
  have e : (commandWord c t u).getLsbD i = (u ++ (t ++ c) : BitVec (16 + (8 + 8))).getLsbD i := rfl
  rw [e, BitVec.getLsbD_append, BitVec.getLsbD_append]
  by_cases h1 : i < 8
  · simp [h1, show i < 16 by omega]
  · by_cases h2 : i < 16 <;> simp [h1, h2]

@[simp] theorem codeField_commandWord (c t : BitVec 8) (u : BitVec 16) : codeField (commandWord c t u) = c := by
  apply BitVec.eq_of_getLsbD_eq
  intro i hi
  simp only [codeField, BitVec.getLsbD_extractLsb', getLsbD_commandWord, Nat.zero_add]
  simp [hi]

@[simp] theorem targetField_commandWord (c t : BitVec 8) (u : BitVec 16) : targetField (commandWord c t u) = t := by
  apply BitVec.eq_of_getLsbD_eq
  intro i hi
  simp only [targetField, BitVec.getLsbD_extractLsb', getLsbD_commandWord]
  simp [hi, show 8 + i < 16 by omega]

@[simp] theorem upperField_commandWord (c t : BitVec 8) (u : BitVec 16) : upperField (commandWord c t u) = u := by
  apply BitVec.eq_of_getLsbD_eq
  intro i hi
  simp only [upperField, BitVec.getLsbD_extractLsb', getLsbD_commandWord]
  simp [hi, show ¬ (16 + i < 8) by omega]

theorem commandWord_fields (w : Word) : commandWord (codeField w) (targetField w) (upperField w) = w := by
  apply BitVec.eq_of_getLsbD_eq
  intro i hi
  simp only [getLsbD_commandWord, codeField, targetField, upperField, BitVec.getLsbD_extractLsb', Nat.zero_add]
  by_cases h1 : i < 8
  · simp [h1]
  · by_cases h2 : i < 16
    · simp [h1, h2, show i - 8 < 8 by omega, show 8 + (i - 8) = i by omega]
    · simp [h1, h2, show i - 16 < 16 by omega, show 16 + (i - 16) = i by omega]

namespace Machine

/-! ## Numbers named by a field (R164) -/

theorem index?_eq_some {n v : Nat} {i : Fin n} : index? n v = some i ↔ v = i.val := by
  unfold index?
  split
  · simp [Fin.ext_iff]
  · simp only [reduceCtorEq, false_iff]
    have := i.isLt
    omega

theorem index?_eq_none {n v : Nat} : index? n v = none ↔ n ≤ v := by
  unfold index?
  split <;> simp <;> omega

@[simp] theorem index?_val {n : Nat} (i : Fin n) : index? n i.val = some i := index?_eq_some.mpr rfl

theorem liveWindow_eq_some {s : State} {t : BitVec 8} {h : Handle} {w : Window} :
    s.liveWindow t = some (h, w) ↔ t.toNat = h.val ∧ s.window h = some w := by
  unfold State.liveWindow
  cases e : index? 64 t.toNat with
  | none =>
    simp only [reduceCtorEq, false_iff, not_and]
    intro ht
    rw [index?_eq_none] at e
    have := h.isLt
    omega
  | some k =>
    rw [index?_eq_some] at e
    simp only [Option.map_eq_some_iff, Prod.mk.injEq, exists_eq_right_right, e]
    constructor
    · rintro ⟨hw, rfl⟩
      exact ⟨rfl, hw⟩
    · rintro ⟨hk, hw⟩
      have : k = h := Fin.ext hk
      subst this
      exact ⟨hw, rfl⟩

theorem liveWindow_eq_none {s : State} {t : BitVec 8} :
    s.liveWindow t = none ↔ ∀ h : Handle, t.toNat = h.val → s.window h = none := by
  constructor
  · intro hn h ht
    cases hw : s.window h with
    | none => rfl
    | some w => rw [liveWindow_eq_some.mpr ⟨ht, hw⟩] at hn; cases hn
  · intro hall
    cases hl : s.liveWindow t with
    | none => rfl
    | some p =>
      obtain ⟨h, w⟩ := p
      obtain ⟨ht, hw⟩ := liveWindow_eq_some.mp hl
      rw [hall h ht] at hw
      cases hw

/-! ## The aperture an access reaches (R158) -/

theorem hostWrite_reaches {s : State} {a : Access} {d : DomainId} (f : DomainId → State) (hr : s.resetAsserted = false)
    (ha : apertureOf a = some d) : s.hostWrite a f = f d := by
  simp [State.hostWrite, hr, ha]

theorem hostWrite_misses {s : State} {a : Access} (f : DomainId → State)
    (h : s.resetAsserted = true ∨ apertureOf a = none) : s.hostWrite a f = s := by
  unfold State.hostWrite
  rcases h with h | h <;> simp [h]

theorem hostRead_reaches {s : State} {a : Access} {d : DomainId} (r : BitVec 4) (f : DomainId → State)
    (hr : s.resetAsserted = false) (ha : apertureOf a = some d) :
    s.hostRead a r f = { f d with readData := s.readRegister d r } := by
  simp [State.hostRead, hr, ha]

/-! ## Acceptance and completion of a command (R161, R162, R165) -/

theorem commandWrite_busy {s : State} {d : DomainId} {w : Word} {body : DomainId → BitVec 8 → State → Completion}
    (hb : (s.port d).busy = true) :
    s.commandWrite d w body = s.updPort d fun p => { p with overrun := true } := by
  simp [State.commandWrite, hb]

@[simp] theorem domain_accept (s : State) (d e : DomainId) (w : Word) : (s.accept d w).domain e = s.domain e := rfl

theorem commandWrite_closed {s : State} {d : DomainId} {w : Word} {body : DomainId → BitVec 8 → State → Completion}
    (hb : (s.port d).busy = false) (ho : (s.domain d).state ≠ .opened) :
    s.commandWrite d w body = (s.accept d w).complete d .closed noResults := by
  simp [State.commandWrite, hb, ho]

theorem commandWrite_open {s : State} {d : DomainId} {w : Word} {body : DomainId → BitVec 8 → State → Completion}
    (hb : (s.port d).busy = false) (ho : (s.domain d).state = .opened) :
    s.commandWrite d w body = (body d (targetField w) (s.accept d w)).apply (s.accept d w) d := by
  simp [State.commandWrite, hb, ho]

@[simp] theorem taken_accept (s : State) (d : DomainId) (w : Word) : (s.accept d w).taken d = (s.port d).params := by
  simp [State.taken, State.accept]

theorem port_accept (s : State) (d e : DomainId) (w : Word) :
    (s.accept d w).port e =
      if e = d then { s.port d with commandWord := w, taken := (s.port d).params } else s.port e := by
  simp [State.accept]

theorem port_complete (s : State) (d e : DomainId) (o : OutcomeCode) (r : Words4) :
    (s.complete d o r).port e = if e = d then (s.port d).completed o r else s.port e := by
  simp [State.complete]

/-- What the completion of an accepted command can be. -/
theorem apply_cases (x : Completion) (s : State) (d : DomainId) :
    (∃ t r, x = .done t r ∧ x.apply s d = t.complete d .done r) ∨
    (∃ o, x = .refused o ∧ x.apply s d = s.complete d o noResults) ∨
    ∃ t y, x = .waits t y ∧ x.apply s d = t.updPort d fun p => { p with waiting := some y } := by
  cases x with
  | done t r => exact .inl ⟨t, r, rfl, rfl⟩
  | refused o => exact .inr (.inl ⟨o, rfl, rfl⟩)
  | waits t y => exact .inr (.inr ⟨t, y, rfl, rfl⟩)

/-! ## Every command answers a next state (R165) -/

theorem exec_next (i : Instr) (s : State) : ∃ t, exec i s = .next t := by
  cases i <;> exact ⟨_, rfl⟩

theorem step_next (s : State) : ∃ t, step s = .next t := by
  unfold step
  split
  · exact ⟨_, rfl⟩
  · exact exec_next _ _

/-! ## The notice unit's raise (R117) -/

theorem raise_level_none {s : State} {h : Handle} {w : Window} (x : Cause) (hw : s.window h = some w)
    (hl : w.level = none) : s.raise h x = s := by
  simp [State.raise, hw, hl]

theorem raise_level_some {s : State} {h : Handle} {w : Window} {l : Level} (x : Cause) (hw : s.window h = some w)
    (hl : w.level = some l) :
    s.raise h x =
      (if s.pendingCauses h = 0 then s.joinList w.owner l h else s).setCauses h (s.pendingCauses h ||| x.flag) := by
  simp [State.raise, hw, hl]

/-! ## The grant decision (R54, R56) -/

/-- A grant decision does nothing, or grants the winner. -/
theorem grantDecision_cases (s : State) :
    (s.grantDecision = s ∧ (s.arbiter.holder ≠ none ∨ s.arbiter.run ≠ .run ∨ s.winner = none)) ∨
    ∃ k c, s.arbiter.holder = none ∧ s.arbiter.run = .run ∧ s.winner = some (k, c) ∧ s.grantDecision = s.grant k c := by
  unfold State.grantDecision
  split
  · next h =>
    split
    · next hw => exact .inl ⟨rfl, .inr (.inr hw)⟩
    · next k c hw => exact .inr ⟨k, c, h.1, h.2, hw, rfl⟩
  · next h =>
    refine .inl ⟨rfl, ?_⟩
    by_cases hh : s.arbiter.holder = none
    · exact .inr (.inl fun hr => h ⟨hh, hr⟩)
    · exact .inl hh

/-- The winner is PENDING and of the class it wins in. -/
theorem winner_contends {s : State} {k : ClassId} {c : ChannelId} (h : s.winner = some (k, c)) :
    (s.channel c).state = .pending ∧ (s.channel c).cls = k := by
  unfold State.winner at h
  obtain ⟨k', -, hk⟩ := List.exists_of_findSome?_eq_some h
  rw [Option.map_eq_some_iff] at hk
  obtain ⟨c', hf, heq⟩ := hk
  cases heq
  have := List.find?_some hf
  simpa [State.contends] using this

/-- An issue writes the unit record of the head's window and nothing else. -/
theorem issue_cases (s : State) (c : ChannelId) :
    s.issue c = s ∨ ∃ h rest w, (s.channel c).chain = h :: rest ∧ s.window h = some w ∧
      s.issue c = s.setRecord (some (unitFor c h w)) := by
  unfold State.issue
  split
  · exact .inl rfl
  · next h rest hc =>
    split
    · exact .inl rfl
    · next w hw => exact .inr ⟨h, rest, w, hc, hw, rfl⟩

/-! ## Chains and settling (R33, R36) -/

/-- A head is activated only when it is LINKED; nothing else changes. -/
theorem activateHead_cases (s : State) (c : ChannelId) :
    ((s.channel c).chain = [] ∧ s.activateHead c = s) ∨
    ∃ h rest, (s.channel c).chain = h :: rest ∧
      s.activateHead c =
        s.updWindow h fun w => if w.state = .linked then { w.renewed with state := .active } else w := by
  unfold State.activateHead
  split
  · next h => exact .inl ⟨h, rfl⟩
  · next h rest hc => exact .inr ⟨h, rest, hc, rfl⟩

/-- A settled channel is IDLE with an empty chain, and PENDING or ARMED by its effective request with another. -/
theorem settled_state (ch : Channel) :
    ch.settled.state = if ch.chain = [] then .idle else if ch.effective then .pending else .armed := by
  unfold Channel.settled Channel.toIdle
  cases hc : ch.chain with
  | nil => by_cases hi : ch.state = .idle <;> simp [hi]
  | cons x xs => by_cases he : ch.effective <;> simp [he]

@[simp] theorem settled_chain (ch : Channel) : ch.settled.chain = ch.chain := by
  unfold Channel.settled Channel.toIdle
  split <;> split <;> rfl

/-! ## The end of a unit (R76) -/

/-- What the end of a unit with a completion OK can do, by its window. -/
theorem unitOk_cases (s : State) (u : UnitRecord) :
    (s.window u.window = none ∧ s.unitOk u = (s.setRecord none).yield u) ∨
    ∃ w, s.window u.window = some w ∧
      ((s.ownerClearing w = true ∧ s.unitOk u = (s.setRecord none).tornDownEnd u w) ∨
       (s.ownerClearing w = false ∧ w.state = .draining ∧ s.unitOk u = (s.setRecord none).drainOk u w) ∨
       (s.ownerClearing w = false ∧ w.state = .active ∧ s.unitOk u = (s.setRecord none).headOk u w) ∨
       (s.ownerClearing w = false ∧ w.state ≠ .draining ∧ w.state ≠ .active ∧
         s.unitOk u = (s.setRecord none).yield u)) := by
  unfold State.unitOk
  split
  · next h => exact .inl ⟨h, rfl⟩
  · next w h =>
    refine .inr ⟨w, h, ?_⟩
    by_cases hc : s.ownerClearing w
    · exact .inl ⟨hc, by simp [hc]⟩
    · simp only [Bool.not_eq_true] at hc
      cases hs : w.state <;> simp [hc]

/-- What the end of a unit with a bus error or a timeout can do, by its window. -/
theorem unitFailed_cases (s : State) (u : UnitRecord) (f : Failure) :
    (s.window u.window = none ∧ s.unitFailed u f = (s.setRecord none).yield u) ∨
    ∃ w, s.window u.window = some w ∧
      ((s.ownerClearing w = true ∧ s.unitFailed u f = (s.setRecord none).tornDownEnd u w) ∨
       (s.ownerClearing w = false ∧ w.state = .draining ∧ s.unitFailed u f = (s.setRecord none).drainFailed u f) ∨
       (s.ownerClearing w = false ∧ w.state = .active ∧ s.unitFailed u f = (s.setRecord none).headFailed u f) ∨
       (s.ownerClearing w = false ∧ w.state ≠ .draining ∧ w.state ≠ .active ∧
         s.unitFailed u f = (s.setRecord none).yield u)) := by
  unfold State.unitFailed
  split
  · next h => exact .inl ⟨h, rfl⟩
  · next w h =>
    refine .inr ⟨w, h, ?_⟩
    by_cases hc : s.ownerClearing w
    · exact .inl ⟨hc, by simp [hc]⟩
    · simp only [Bool.not_eq_true] at hc
      cases hs : w.state <;> simp [hc]

end Machine
end Sys2Proof
end

