-- ==== Sys2Proof/Laws/Frames.lean ====
section
/-! SUPPORT. The frame of each shared operation: the blocks it leaves as they are, and the operations that commute with the
completion of a command. -/

namespace Sys2Proof.Machine

/-! ## joinList -/

@[simp] theorem State.joinList_windows (s : State) (e : DomainId) (l : Level) (x : Handle) : (s.joinList e l x).windows = s.windows := by simp [State.joinList]
@[simp] theorem State.joinList_causes (s : State) (e : DomainId) (l : Level) (x : Handle) : (s.joinList e l x).causes = s.causes := by simp [State.joinList]
@[simp] theorem State.joinList_channels (s : State) (e : DomainId) (l : Level) (x : Handle) : (s.joinList e l x).channels = s.channels := by simp [State.joinList]
@[simp] theorem State.joinList_domains (s : State) (e : DomainId) (l : Level) (x : Handle) : (s.joinList e l x).domains = s.domains := by simp [State.joinList]
@[simp] theorem State.joinList_ports (s : State) (e : DomainId) (l : Level) (x : Handle) : (s.joinList e l x).ports = s.ports := by simp [State.joinList]
@[simp] theorem State.joinList_arbiter (s : State) (e : DomainId) (l : Level) (x : Handle) : (s.joinList e l x).arbiter = s.arbiter := by simp [State.joinList]
@[simp] theorem State.joinList_memory (s : State) (e : DomainId) (l : Level) (x : Handle) : (s.joinList e l x).memory = s.memory := by simp [State.joinList]
@[simp] theorem State.joinList_clock (s : State) (e : DomainId) (l : Level) (x : Handle) : (s.joinList e l x).clock = s.clock := by simp [State.joinList]
@[simp] theorem State.joinList_rq (s : State) (e : DomainId) (l : Level) (x : Handle) : (s.joinList e l x).rq = s.rq := by simp [State.joinList]
@[simp] theorem State.joinList_resetAsserted (s : State) (e : DomainId) (l : Level) (x : Handle) : (s.joinList e l x).resetAsserted = s.resetAsserted := by simp [State.joinList]
@[simp] theorem State.joinList_readData (s : State) (e : DomainId) (l : Level) (x : Handle) : (s.joinList e l x).readData = s.readData := by simp [State.joinList]
@[simp] theorem State.joinList_pending (s : State) (e : DomainId) (l : Level) (x : Handle) : (s.joinList e l x).pending = s.pending := by simp [State.joinList]
@[simp] theorem State.joinList_window (s : State) (e : DomainId) (l : Level) (x : Handle) (h : Handle) : (s.joinList e l x).window h = s.window h := by
  simp only [State.window, State.joinList_windows]
@[simp] theorem State.joinList_pendingCauses (s : State) (e : DomainId) (l : Level) (x : Handle) (h : Handle) : (s.joinList e l x).pendingCauses h = s.pendingCauses h := by
  simp only [State.pendingCauses, State.joinList_causes]
@[simp] theorem State.joinList_channel (s : State) (e : DomainId) (l : Level) (x : Handle) (c : ChannelId) : (s.joinList e l x).channel c = s.channel c := by
  simp only [State.channel, State.joinList_channels]
@[simp] theorem State.joinList_domain (s : State) (e : DomainId) (l : Level) (x : Handle) (d : DomainId) : (s.joinList e l x).domain d = s.domain d := by
  simp only [State.domain, State.joinList_domains]
@[simp] theorem State.joinList_port (s : State) (e : DomainId) (l : Level) (x : Handle) (d : DomainId) : (s.joinList e l x).port d = s.port d := by
  simp only [State.port, State.joinList_ports]
@[simp] theorem State.joinList_inFlight (s : State) (e : DomainId) (l : Level) (x : Handle) (h : Handle) : (s.joinList e l x).inFlight h = s.inFlight h := by
  simp only [State.inFlight, State.joinList_memory]

/-! ## leaveList -/

@[simp] theorem State.leaveList_windows (s : State) (e : DomainId) (l : Level) (x : Handle) : (s.leaveList e l x).windows = s.windows := by simp [State.leaveList]
@[simp] theorem State.leaveList_causes (s : State) (e : DomainId) (l : Level) (x : Handle) : (s.leaveList e l x).causes = s.causes := by simp [State.leaveList]
@[simp] theorem State.leaveList_channels (s : State) (e : DomainId) (l : Level) (x : Handle) : (s.leaveList e l x).channels = s.channels := by simp [State.leaveList]
@[simp] theorem State.leaveList_domains (s : State) (e : DomainId) (l : Level) (x : Handle) : (s.leaveList e l x).domains = s.domains := by simp [State.leaveList]
@[simp] theorem State.leaveList_ports (s : State) (e : DomainId) (l : Level) (x : Handle) : (s.leaveList e l x).ports = s.ports := by simp [State.leaveList]
@[simp] theorem State.leaveList_arbiter (s : State) (e : DomainId) (l : Level) (x : Handle) : (s.leaveList e l x).arbiter = s.arbiter := by simp [State.leaveList]
@[simp] theorem State.leaveList_memory (s : State) (e : DomainId) (l : Level) (x : Handle) : (s.leaveList e l x).memory = s.memory := by simp [State.leaveList]
@[simp] theorem State.leaveList_clock (s : State) (e : DomainId) (l : Level) (x : Handle) : (s.leaveList e l x).clock = s.clock := by simp [State.leaveList]
@[simp] theorem State.leaveList_rq (s : State) (e : DomainId) (l : Level) (x : Handle) : (s.leaveList e l x).rq = s.rq := by simp [State.leaveList]
@[simp] theorem State.leaveList_resetAsserted (s : State) (e : DomainId) (l : Level) (x : Handle) : (s.leaveList e l x).resetAsserted = s.resetAsserted := by simp [State.leaveList]
@[simp] theorem State.leaveList_readData (s : State) (e : DomainId) (l : Level) (x : Handle) : (s.leaveList e l x).readData = s.readData := by simp [State.leaveList]
@[simp] theorem State.leaveList_pending (s : State) (e : DomainId) (l : Level) (x : Handle) : (s.leaveList e l x).pending = s.pending := by simp [State.leaveList]
@[simp] theorem State.leaveList_window (s : State) (e : DomainId) (l : Level) (x : Handle) (h : Handle) : (s.leaveList e l x).window h = s.window h := by
  simp only [State.window, State.leaveList_windows]
@[simp] theorem State.leaveList_pendingCauses (s : State) (e : DomainId) (l : Level) (x : Handle) (h : Handle) : (s.leaveList e l x).pendingCauses h = s.pendingCauses h := by
  simp only [State.pendingCauses, State.leaveList_causes]
@[simp] theorem State.leaveList_channel (s : State) (e : DomainId) (l : Level) (x : Handle) (c : ChannelId) : (s.leaveList e l x).channel c = s.channel c := by
  simp only [State.channel, State.leaveList_channels]
@[simp] theorem State.leaveList_domain (s : State) (e : DomainId) (l : Level) (x : Handle) (d : DomainId) : (s.leaveList e l x).domain d = s.domain d := by
  simp only [State.domain, State.leaveList_domains]
@[simp] theorem State.leaveList_port (s : State) (e : DomainId) (l : Level) (x : Handle) (d : DomainId) : (s.leaveList e l x).port d = s.port d := by
  simp only [State.port, State.leaveList_ports]
@[simp] theorem State.leaveList_inFlight (s : State) (e : DomainId) (l : Level) (x : Handle) (h : Handle) : (s.leaveList e l x).inFlight h = s.inFlight h := by
  simp only [State.inFlight, State.leaveList_memory]

/-! ## raise -/

@[simp] theorem State.raise_windows (s : State) (x : Handle) (k : Cause) : (s.raise x k).windows = s.windows := by
  unfold State.raise; repeat' split
  all_goals simp
@[simp] theorem State.raise_channels (s : State) (x : Handle) (k : Cause) : (s.raise x k).channels = s.channels := by
  unfold State.raise; repeat' split
  all_goals simp
@[simp] theorem State.raise_domains (s : State) (x : Handle) (k : Cause) : (s.raise x k).domains = s.domains := by
  unfold State.raise; repeat' split
  all_goals simp
@[simp] theorem State.raise_ports (s : State) (x : Handle) (k : Cause) : (s.raise x k).ports = s.ports := by
  unfold State.raise; repeat' split
  all_goals simp
@[simp] theorem State.raise_arbiter (s : State) (x : Handle) (k : Cause) : (s.raise x k).arbiter = s.arbiter := by
  unfold State.raise; repeat' split
  all_goals simp
@[simp] theorem State.raise_memory (s : State) (x : Handle) (k : Cause) : (s.raise x k).memory = s.memory := by
  unfold State.raise; repeat' split
  all_goals simp
@[simp] theorem State.raise_clock (s : State) (x : Handle) (k : Cause) : (s.raise x k).clock = s.clock := by
  unfold State.raise; repeat' split
  all_goals simp
@[simp] theorem State.raise_rq (s : State) (x : Handle) (k : Cause) : (s.raise x k).rq = s.rq := by
  unfold State.raise; repeat' split
  all_goals simp
@[simp] theorem State.raise_resetAsserted (s : State) (x : Handle) (k : Cause) : (s.raise x k).resetAsserted = s.resetAsserted := by
  unfold State.raise; repeat' split
  all_goals simp
@[simp] theorem State.raise_readData (s : State) (x : Handle) (k : Cause) : (s.raise x k).readData = s.readData := by
  unfold State.raise; repeat' split
  all_goals simp
@[simp] theorem State.raise_pending (s : State) (x : Handle) (k : Cause) : (s.raise x k).pending = s.pending := by
  unfold State.raise; repeat' split
  all_goals simp
@[simp] theorem State.raise_window (s : State) (x : Handle) (k : Cause) (h : Handle) : (s.raise x k).window h = s.window h := by
  simp only [State.window, State.raise_windows]
@[simp] theorem State.raise_channel (s : State) (x : Handle) (k : Cause) (c : ChannelId) : (s.raise x k).channel c = s.channel c := by
  simp only [State.channel, State.raise_channels]
@[simp] theorem State.raise_domain (s : State) (x : Handle) (k : Cause) (d : DomainId) : (s.raise x k).domain d = s.domain d := by
  simp only [State.domain, State.raise_domains]
@[simp] theorem State.raise_port (s : State) (x : Handle) (k : Cause) (d : DomainId) : (s.raise x k).port d = s.port d := by
  simp only [State.port, State.raise_ports]
@[simp] theorem State.raise_inFlight (s : State) (x : Handle) (k : Cause) (h : Handle) : (s.raise x k).inFlight h = s.inFlight h := by
  simp only [State.inFlight, State.raise_memory]

/-! ## raise? -/

@[simp] theorem State.raiseOpt_windows (s : State) (x : Handle) (k : Option Cause) : (s.raise? x k).windows = s.windows := by
  unfold State.raise?; repeat' split
  all_goals simp
@[simp] theorem State.raiseOpt_channels (s : State) (x : Handle) (k : Option Cause) : (s.raise? x k).channels = s.channels := by
  unfold State.raise?; repeat' split
  all_goals simp
@[simp] theorem State.raiseOpt_domains (s : State) (x : Handle) (k : Option Cause) : (s.raise? x k).domains = s.domains := by
  unfold State.raise?; repeat' split
  all_goals simp
@[simp] theorem State.raiseOpt_ports (s : State) (x : Handle) (k : Option Cause) : (s.raise? x k).ports = s.ports := by
  unfold State.raise?; repeat' split
  all_goals simp
@[simp] theorem State.raiseOpt_arbiter (s : State) (x : Handle) (k : Option Cause) : (s.raise? x k).arbiter = s.arbiter := by
  unfold State.raise?; repeat' split
  all_goals simp
@[simp] theorem State.raiseOpt_memory (s : State) (x : Handle) (k : Option Cause) : (s.raise? x k).memory = s.memory := by
  unfold State.raise?; repeat' split
  all_goals simp
@[simp] theorem State.raiseOpt_clock (s : State) (x : Handle) (k : Option Cause) : (s.raise? x k).clock = s.clock := by
  unfold State.raise?; repeat' split
  all_goals simp
@[simp] theorem State.raiseOpt_rq (s : State) (x : Handle) (k : Option Cause) : (s.raise? x k).rq = s.rq := by
  unfold State.raise?; repeat' split
  all_goals simp
@[simp] theorem State.raiseOpt_resetAsserted (s : State) (x : Handle) (k : Option Cause) : (s.raise? x k).resetAsserted = s.resetAsserted := by
  unfold State.raise?; repeat' split
  all_goals simp
@[simp] theorem State.raiseOpt_readData (s : State) (x : Handle) (k : Option Cause) : (s.raise? x k).readData = s.readData := by
  unfold State.raise?; repeat' split
  all_goals simp
@[simp] theorem State.raiseOpt_pending (s : State) (x : Handle) (k : Option Cause) : (s.raise? x k).pending = s.pending := by
  unfold State.raise?; repeat' split
  all_goals simp
@[simp] theorem State.raiseOpt_window (s : State) (x : Handle) (k : Option Cause) (h : Handle) : (s.raise? x k).window h = s.window h := by
  simp only [State.window, State.raiseOpt_windows]
@[simp] theorem State.raiseOpt_channel (s : State) (x : Handle) (k : Option Cause) (c : ChannelId) : (s.raise? x k).channel c = s.channel c := by
  simp only [State.channel, State.raiseOpt_channels]
@[simp] theorem State.raiseOpt_domain (s : State) (x : Handle) (k : Option Cause) (d : DomainId) : (s.raise? x k).domain d = s.domain d := by
  simp only [State.domain, State.raiseOpt_domains]
@[simp] theorem State.raiseOpt_port (s : State) (x : Handle) (k : Option Cause) (d : DomainId) : (s.raise? x k).port d = s.port d := by
  simp only [State.port, State.raiseOpt_ports]
@[simp] theorem State.raiseOpt_inFlight (s : State) (x : Handle) (k : Option Cause) (h : Handle) : (s.raise? x k).inFlight h = s.inFlight h := by
  simp only [State.inFlight, State.raiseOpt_memory]

/-! ## freeWindow -/

@[simp] theorem State.freeWindow_channels (s : State) (x : Handle) (w : Window) : (s.freeWindow x w).channels = s.channels := by simp [State.freeWindow]
@[simp] theorem State.freeWindow_domains (s : State) (x : Handle) (w : Window) : (s.freeWindow x w).domains = s.domains := by simp [State.freeWindow]
@[simp] theorem State.freeWindow_ports (s : State) (x : Handle) (w : Window) : (s.freeWindow x w).ports = s.ports := by simp [State.freeWindow]
@[simp] theorem State.freeWindow_arbiter (s : State) (x : Handle) (w : Window) : (s.freeWindow x w).arbiter = s.arbiter := by simp [State.freeWindow]
@[simp] theorem State.freeWindow_memory (s : State) (x : Handle) (w : Window) : (s.freeWindow x w).memory = s.memory := by simp [State.freeWindow]
@[simp] theorem State.freeWindow_clock (s : State) (x : Handle) (w : Window) : (s.freeWindow x w).clock = s.clock := by simp [State.freeWindow]
@[simp] theorem State.freeWindow_rq (s : State) (x : Handle) (w : Window) : (s.freeWindow x w).rq = s.rq := by simp [State.freeWindow]
@[simp] theorem State.freeWindow_resetAsserted (s : State) (x : Handle) (w : Window) : (s.freeWindow x w).resetAsserted = s.resetAsserted := by simp [State.freeWindow]
@[simp] theorem State.freeWindow_readData (s : State) (x : Handle) (w : Window) : (s.freeWindow x w).readData = s.readData := by simp [State.freeWindow]
@[simp] theorem State.freeWindow_pending (s : State) (x : Handle) (w : Window) : (s.freeWindow x w).pending = s.pending := by simp [State.freeWindow]
@[simp] theorem State.freeWindow_channel (s : State) (x : Handle) (w : Window) (c : ChannelId) : (s.freeWindow x w).channel c = s.channel c := by
  simp only [State.channel, State.freeWindow_channels]
@[simp] theorem State.freeWindow_domain (s : State) (x : Handle) (w : Window) (d : DomainId) : (s.freeWindow x w).domain d = s.domain d := by
  simp only [State.domain, State.freeWindow_domains]
@[simp] theorem State.freeWindow_port (s : State) (x : Handle) (w : Window) (d : DomainId) : (s.freeWindow x w).port d = s.port d := by
  simp only [State.port, State.freeWindow_ports]
@[simp] theorem State.freeWindow_inFlight (s : State) (x : Handle) (w : Window) (h : Handle) : (s.freeWindow x w).inFlight h = s.inFlight h := by
  simp only [State.inFlight, State.freeWindow_memory]

/-! ## unlink -/

@[simp] theorem State.unlink_windows (s : State) (x : ChannelId) (y : Handle) : (s.unlink x y).windows = s.windows := by simp [State.unlink]
@[simp] theorem State.unlink_causes (s : State) (x : ChannelId) (y : Handle) : (s.unlink x y).causes = s.causes := by simp [State.unlink]
@[simp] theorem State.unlink_domains (s : State) (x : ChannelId) (y : Handle) : (s.unlink x y).domains = s.domains := by simp [State.unlink]
@[simp] theorem State.unlink_notices (s : State) (x : ChannelId) (y : Handle) : (s.unlink x y).notices = s.notices := by simp [State.unlink]
@[simp] theorem State.unlink_ports (s : State) (x : ChannelId) (y : Handle) : (s.unlink x y).ports = s.ports := by simp [State.unlink]
@[simp] theorem State.unlink_arbiter (s : State) (x : ChannelId) (y : Handle) : (s.unlink x y).arbiter = s.arbiter := by simp [State.unlink]
@[simp] theorem State.unlink_memory (s : State) (x : ChannelId) (y : Handle) : (s.unlink x y).memory = s.memory := by simp [State.unlink]
@[simp] theorem State.unlink_clock (s : State) (x : ChannelId) (y : Handle) : (s.unlink x y).clock = s.clock := by simp [State.unlink]
@[simp] theorem State.unlink_rq (s : State) (x : ChannelId) (y : Handle) : (s.unlink x y).rq = s.rq := by simp [State.unlink]
@[simp] theorem State.unlink_resetAsserted (s : State) (x : ChannelId) (y : Handle) : (s.unlink x y).resetAsserted = s.resetAsserted := by simp [State.unlink]
@[simp] theorem State.unlink_readData (s : State) (x : ChannelId) (y : Handle) : (s.unlink x y).readData = s.readData := by simp [State.unlink]
@[simp] theorem State.unlink_pending (s : State) (x : ChannelId) (y : Handle) : (s.unlink x y).pending = s.pending := by simp [State.unlink]
@[simp] theorem State.unlink_window (s : State) (x : ChannelId) (y : Handle) (h : Handle) : (s.unlink x y).window h = s.window h := by
  simp only [State.window, State.unlink_windows]
@[simp] theorem State.unlink_pendingCauses (s : State) (x : ChannelId) (y : Handle) (h : Handle) : (s.unlink x y).pendingCauses h = s.pendingCauses h := by
  simp only [State.pendingCauses, State.unlink_causes]
@[simp] theorem State.unlink_domain (s : State) (x : ChannelId) (y : Handle) (d : DomainId) : (s.unlink x y).domain d = s.domain d := by
  simp only [State.domain, State.unlink_domains]
@[simp] theorem State.unlink_notice (s : State) (x : ChannelId) (y : Handle) (d : DomainId) : (s.unlink x y).notice d = s.notice d := by
  simp only [State.notice, State.unlink_notices]
@[simp] theorem State.unlink_port (s : State) (x : ChannelId) (y : Handle) (d : DomainId) : (s.unlink x y).port d = s.port d := by
  simp only [State.port, State.unlink_ports]
@[simp] theorem State.unlink_inFlight (s : State) (x : ChannelId) (y : Handle) (h : Handle) : (s.unlink x y).inFlight h = s.inFlight h := by
  simp only [State.inFlight, State.unlink_memory]

/-! ## activateHead -/

@[simp] theorem State.activateHead_causes (s : State) (x : ChannelId) : (s.activateHead x).causes = s.causes := by
  unfold State.activateHead; repeat' split
  all_goals simp
@[simp] theorem State.activateHead_channels (s : State) (x : ChannelId) : (s.activateHead x).channels = s.channels := by
  unfold State.activateHead; repeat' split
  all_goals simp
@[simp] theorem State.activateHead_domains (s : State) (x : ChannelId) : (s.activateHead x).domains = s.domains := by
  unfold State.activateHead; repeat' split
  all_goals simp
@[simp] theorem State.activateHead_notices (s : State) (x : ChannelId) : (s.activateHead x).notices = s.notices := by
  unfold State.activateHead; repeat' split
  all_goals simp
@[simp] theorem State.activateHead_ports (s : State) (x : ChannelId) : (s.activateHead x).ports = s.ports := by
  unfold State.activateHead; repeat' split
  all_goals simp
@[simp] theorem State.activateHead_arbiter (s : State) (x : ChannelId) : (s.activateHead x).arbiter = s.arbiter := by
  unfold State.activateHead; repeat' split
  all_goals simp
@[simp] theorem State.activateHead_memory (s : State) (x : ChannelId) : (s.activateHead x).memory = s.memory := by
  unfold State.activateHead; repeat' split
  all_goals simp
@[simp] theorem State.activateHead_clock (s : State) (x : ChannelId) : (s.activateHead x).clock = s.clock := by
  unfold State.activateHead; repeat' split
  all_goals simp
@[simp] theorem State.activateHead_rq (s : State) (x : ChannelId) : (s.activateHead x).rq = s.rq := by
  unfold State.activateHead; repeat' split
  all_goals simp
@[simp] theorem State.activateHead_resetAsserted (s : State) (x : ChannelId) : (s.activateHead x).resetAsserted = s.resetAsserted := by
  unfold State.activateHead; repeat' split
  all_goals simp
@[simp] theorem State.activateHead_readData (s : State) (x : ChannelId) : (s.activateHead x).readData = s.readData := by
  unfold State.activateHead; repeat' split
  all_goals simp
@[simp] theorem State.activateHead_pending (s : State) (x : ChannelId) : (s.activateHead x).pending = s.pending := by
  unfold State.activateHead; repeat' split
  all_goals simp
@[simp] theorem State.activateHead_pendingCauses (s : State) (x : ChannelId) (h : Handle) : (s.activateHead x).pendingCauses h = s.pendingCauses h := by
  simp only [State.pendingCauses, State.activateHead_causes]
@[simp] theorem State.activateHead_channel (s : State) (x : ChannelId) (c : ChannelId) : (s.activateHead x).channel c = s.channel c := by
  simp only [State.channel, State.activateHead_channels]
@[simp] theorem State.activateHead_domain (s : State) (x : ChannelId) (d : DomainId) : (s.activateHead x).domain d = s.domain d := by
  simp only [State.domain, State.activateHead_domains]
@[simp] theorem State.activateHead_notice (s : State) (x : ChannelId) (d : DomainId) : (s.activateHead x).notice d = s.notice d := by
  simp only [State.notice, State.activateHead_notices]
@[simp] theorem State.activateHead_port (s : State) (x : ChannelId) (d : DomainId) : (s.activateHead x).port d = s.port d := by
  simp only [State.port, State.activateHead_ports]
@[simp] theorem State.activateHead_inFlight (s : State) (x : ChannelId) (h : Handle) : (s.activateHead x).inFlight h = s.inFlight h := by
  simp only [State.inFlight, State.activateHead_memory]

/-! ## issue -/

@[simp] theorem State.issue_windows (s : State) (x : ChannelId) : (s.issue x).windows = s.windows := by
  unfold State.issue; repeat' split
  all_goals simp
@[simp] theorem State.issue_causes (s : State) (x : ChannelId) : (s.issue x).causes = s.causes := by
  unfold State.issue; repeat' split
  all_goals simp
@[simp] theorem State.issue_channels (s : State) (x : ChannelId) : (s.issue x).channels = s.channels := by
  unfold State.issue; repeat' split
  all_goals simp
@[simp] theorem State.issue_domains (s : State) (x : ChannelId) : (s.issue x).domains = s.domains := by
  unfold State.issue; repeat' split
  all_goals simp
@[simp] theorem State.issue_notices (s : State) (x : ChannelId) : (s.issue x).notices = s.notices := by
  unfold State.issue; repeat' split
  all_goals simp
@[simp] theorem State.issue_ports (s : State) (x : ChannelId) : (s.issue x).ports = s.ports := by
  unfold State.issue; repeat' split
  all_goals simp
@[simp] theorem State.issue_arbiter (s : State) (x : ChannelId) : (s.issue x).arbiter = s.arbiter := by
  unfold State.issue; repeat' split
  all_goals simp
@[simp] theorem State.issue_clock (s : State) (x : ChannelId) : (s.issue x).clock = s.clock := by
  unfold State.issue; repeat' split
  all_goals simp
@[simp] theorem State.issue_rq (s : State) (x : ChannelId) : (s.issue x).rq = s.rq := by
  unfold State.issue; repeat' split
  all_goals simp
@[simp] theorem State.issue_resetAsserted (s : State) (x : ChannelId) : (s.issue x).resetAsserted = s.resetAsserted := by
  unfold State.issue; repeat' split
  all_goals simp
@[simp] theorem State.issue_readData (s : State) (x : ChannelId) : (s.issue x).readData = s.readData := by
  unfold State.issue; repeat' split
  all_goals simp
@[simp] theorem State.issue_pending (s : State) (x : ChannelId) : (s.issue x).pending = s.pending := by
  unfold State.issue; repeat' split
  all_goals simp
@[simp] theorem State.issue_window (s : State) (x : ChannelId) (h : Handle) : (s.issue x).window h = s.window h := by
  simp only [State.window, State.issue_windows]
@[simp] theorem State.issue_pendingCauses (s : State) (x : ChannelId) (h : Handle) : (s.issue x).pendingCauses h = s.pendingCauses h := by
  simp only [State.pendingCauses, State.issue_causes]
@[simp] theorem State.issue_channel (s : State) (x : ChannelId) (c : ChannelId) : (s.issue x).channel c = s.channel c := by
  simp only [State.channel, State.issue_channels]
@[simp] theorem State.issue_domain (s : State) (x : ChannelId) (d : DomainId) : (s.issue x).domain d = s.domain d := by
  simp only [State.domain, State.issue_domains]
@[simp] theorem State.issue_notice (s : State) (x : ChannelId) (d : DomainId) : (s.issue x).notice d = s.notice d := by
  simp only [State.notice, State.issue_notices]
@[simp] theorem State.issue_port (s : State) (x : ChannelId) (d : DomainId) : (s.issue x).port d = s.port d := by
  simp only [State.port, State.issue_ports]

/-! ## grantDecision -/

@[simp] theorem State.grantDecision_windows (s : State) : (s.grantDecision).windows = s.windows := by
  unfold State.grantDecision State.grant; repeat' split
  all_goals simp
@[simp] theorem State.grantDecision_causes (s : State) : (s.grantDecision).causes = s.causes := by
  unfold State.grantDecision State.grant; repeat' split
  all_goals simp
@[simp] theorem State.grantDecision_domains (s : State) : (s.grantDecision).domains = s.domains := by
  unfold State.grantDecision State.grant; repeat' split
  all_goals simp
@[simp] theorem State.grantDecision_notices (s : State) : (s.grantDecision).notices = s.notices := by
  unfold State.grantDecision State.grant; repeat' split
  all_goals simp
@[simp] theorem State.grantDecision_ports (s : State) : (s.grantDecision).ports = s.ports := by
  unfold State.grantDecision State.grant; repeat' split
  all_goals simp
@[simp] theorem State.grantDecision_clock (s : State) : (s.grantDecision).clock = s.clock := by
  unfold State.grantDecision State.grant; repeat' split
  all_goals simp
@[simp] theorem State.grantDecision_rq (s : State) : (s.grantDecision).rq = s.rq := by
  unfold State.grantDecision State.grant; repeat' split
  all_goals simp
@[simp] theorem State.grantDecision_resetAsserted (s : State) : (s.grantDecision).resetAsserted = s.resetAsserted := by
  unfold State.grantDecision State.grant; repeat' split
  all_goals simp
@[simp] theorem State.grantDecision_readData (s : State) : (s.grantDecision).readData = s.readData := by
  unfold State.grantDecision State.grant; repeat' split
  all_goals simp
@[simp] theorem State.grantDecision_pending (s : State) : (s.grantDecision).pending = s.pending := by
  unfold State.grantDecision State.grant; repeat' split
  all_goals simp
@[simp] theorem State.grantDecision_window (s : State) (h : Handle) : (s.grantDecision).window h = s.window h := by
  simp only [State.window, State.grantDecision_windows]
@[simp] theorem State.grantDecision_pendingCauses (s : State) (h : Handle) : (s.grantDecision).pendingCauses h = s.pendingCauses h := by
  simp only [State.pendingCauses, State.grantDecision_causes]
@[simp] theorem State.grantDecision_domain (s : State) (d : DomainId) : (s.grantDecision).domain d = s.domain d := by
  simp only [State.domain, State.grantDecision_domains]
@[simp] theorem State.grantDecision_notice (s : State) (d : DomainId) : (s.grantDecision).notice d = s.notice d := by
  simp only [State.notice, State.grantDecision_notices]
@[simp] theorem State.grantDecision_port (s : State) (d : DomainId) : (s.grantDecision).port d = s.port d := by
  simp only [State.port, State.grantDecision_ports]

/-! ## completeWaiters -/

@[simp] theorem State.completeWaiters_windows (s : State) (u : UnitRecord) : (s.completeWaiters u).windows = s.windows := by simp [State.completeWaiters]
@[simp] theorem State.completeWaiters_causes (s : State) (u : UnitRecord) : (s.completeWaiters u).causes = s.causes := by simp [State.completeWaiters]
@[simp] theorem State.completeWaiters_channels (s : State) (u : UnitRecord) : (s.completeWaiters u).channels = s.channels := by simp [State.completeWaiters]
@[simp] theorem State.completeWaiters_domains (s : State) (u : UnitRecord) : (s.completeWaiters u).domains = s.domains := by simp [State.completeWaiters]
@[simp] theorem State.completeWaiters_notices (s : State) (u : UnitRecord) : (s.completeWaiters u).notices = s.notices := by simp [State.completeWaiters]
@[simp] theorem State.completeWaiters_arbiter (s : State) (u : UnitRecord) : (s.completeWaiters u).arbiter = s.arbiter := by simp [State.completeWaiters]
@[simp] theorem State.completeWaiters_memory (s : State) (u : UnitRecord) : (s.completeWaiters u).memory = s.memory := by simp [State.completeWaiters]
@[simp] theorem State.completeWaiters_clock (s : State) (u : UnitRecord) : (s.completeWaiters u).clock = s.clock := by simp [State.completeWaiters]
@[simp] theorem State.completeWaiters_rq (s : State) (u : UnitRecord) : (s.completeWaiters u).rq = s.rq := by simp [State.completeWaiters]
@[simp] theorem State.completeWaiters_resetAsserted (s : State) (u : UnitRecord) : (s.completeWaiters u).resetAsserted = s.resetAsserted := by simp [State.completeWaiters]
@[simp] theorem State.completeWaiters_readData (s : State) (u : UnitRecord) : (s.completeWaiters u).readData = s.readData := by simp [State.completeWaiters]
@[simp] theorem State.completeWaiters_pending (s : State) (u : UnitRecord) : (s.completeWaiters u).pending = s.pending := by simp [State.completeWaiters]
@[simp] theorem State.completeWaiters_window (s : State) (u : UnitRecord) (h : Handle) : (s.completeWaiters u).window h = s.window h := by
  simp only [State.window, State.completeWaiters_windows]
@[simp] theorem State.completeWaiters_pendingCauses (s : State) (u : UnitRecord) (h : Handle) : (s.completeWaiters u).pendingCauses h = s.pendingCauses h := by
  simp only [State.pendingCauses, State.completeWaiters_causes]
@[simp] theorem State.completeWaiters_channel (s : State) (u : UnitRecord) (c : ChannelId) : (s.completeWaiters u).channel c = s.channel c := by
  simp only [State.channel, State.completeWaiters_channels]
@[simp] theorem State.completeWaiters_domain (s : State) (u : UnitRecord) (d : DomainId) : (s.completeWaiters u).domain d = s.domain d := by
  simp only [State.domain, State.completeWaiters_domains]
@[simp] theorem State.completeWaiters_notice (s : State) (u : UnitRecord) (d : DomainId) : (s.completeWaiters u).notice d = s.notice d := by
  simp only [State.notice, State.completeWaiters_notices]
@[simp] theorem State.completeWaiters_inFlight (s : State) (u : UnitRecord) (h : Handle) : (s.completeWaiters u).inFlight h = s.inFlight h := by
  simp only [State.inFlight, State.completeWaiters_memory]

/-! ## complete -/

@[simp] theorem State.complete_windows (s : State) (x : DomainId) (o : OutcomeCode) (r : Words4) : (s.complete x o r).windows = s.windows := by simp [State.complete]
@[simp] theorem State.complete_causes (s : State) (x : DomainId) (o : OutcomeCode) (r : Words4) : (s.complete x o r).causes = s.causes := by simp [State.complete]
@[simp] theorem State.complete_channels (s : State) (x : DomainId) (o : OutcomeCode) (r : Words4) : (s.complete x o r).channels = s.channels := by simp [State.complete]
@[simp] theorem State.complete_domains (s : State) (x : DomainId) (o : OutcomeCode) (r : Words4) : (s.complete x o r).domains = s.domains := by simp [State.complete]
@[simp] theorem State.complete_notices (s : State) (x : DomainId) (o : OutcomeCode) (r : Words4) : (s.complete x o r).notices = s.notices := by simp [State.complete]
@[simp] theorem State.complete_arbiter (s : State) (x : DomainId) (o : OutcomeCode) (r : Words4) : (s.complete x o r).arbiter = s.arbiter := by simp [State.complete]
@[simp] theorem State.complete_memory (s : State) (x : DomainId) (o : OutcomeCode) (r : Words4) : (s.complete x o r).memory = s.memory := by simp [State.complete]
@[simp] theorem State.complete_clock (s : State) (x : DomainId) (o : OutcomeCode) (r : Words4) : (s.complete x o r).clock = s.clock := by simp [State.complete]
@[simp] theorem State.complete_rq (s : State) (x : DomainId) (o : OutcomeCode) (r : Words4) : (s.complete x o r).rq = s.rq := by simp [State.complete]
@[simp] theorem State.complete_resetAsserted (s : State) (x : DomainId) (o : OutcomeCode) (r : Words4) : (s.complete x o r).resetAsserted = s.resetAsserted := by simp [State.complete]
@[simp] theorem State.complete_readData (s : State) (x : DomainId) (o : OutcomeCode) (r : Words4) : (s.complete x o r).readData = s.readData := by simp [State.complete]
@[simp] theorem State.complete_pending (s : State) (x : DomainId) (o : OutcomeCode) (r : Words4) : (s.complete x o r).pending = s.pending := by simp [State.complete]
@[simp] theorem State.complete_window (s : State) (x : DomainId) (o : OutcomeCode) (r : Words4) (h : Handle) : (s.complete x o r).window h = s.window h := by
  simp only [State.window, State.complete_windows]
@[simp] theorem State.complete_pendingCauses (s : State) (x : DomainId) (o : OutcomeCode) (r : Words4) (h : Handle) : (s.complete x o r).pendingCauses h = s.pendingCauses h := by
  simp only [State.pendingCauses, State.complete_causes]
@[simp] theorem State.complete_channel (s : State) (x : DomainId) (o : OutcomeCode) (r : Words4) (c : ChannelId) : (s.complete x o r).channel c = s.channel c := by
  simp only [State.channel, State.complete_channels]
@[simp] theorem State.complete_domain (s : State) (x : DomainId) (o : OutcomeCode) (r : Words4) (d : DomainId) : (s.complete x o r).domain d = s.domain d := by
  simp only [State.domain, State.complete_domains]
@[simp] theorem State.complete_notice (s : State) (x : DomainId) (o : OutcomeCode) (r : Words4) (d : DomainId) : (s.complete x o r).notice d = s.notice d := by
  simp only [State.notice, State.complete_notices]
@[simp] theorem State.complete_inFlight (s : State) (x : DomainId) (o : OutcomeCode) (r : Words4) (h : Handle) : (s.complete x o r).inFlight h = s.inFlight h := by
  simp only [State.inFlight, State.complete_memory]

/-! ## accept -/

@[simp] theorem State.accept_windows (s : State) (x : DomainId) (v : Word) : (s.accept x v).windows = s.windows := by simp [State.accept]
@[simp] theorem State.accept_causes (s : State) (x : DomainId) (v : Word) : (s.accept x v).causes = s.causes := by simp [State.accept]
@[simp] theorem State.accept_channels (s : State) (x : DomainId) (v : Word) : (s.accept x v).channels = s.channels := by simp [State.accept]
@[simp] theorem State.accept_domains (s : State) (x : DomainId) (v : Word) : (s.accept x v).domains = s.domains := by simp [State.accept]
@[simp] theorem State.accept_notices (s : State) (x : DomainId) (v : Word) : (s.accept x v).notices = s.notices := by simp [State.accept]
@[simp] theorem State.accept_arbiter (s : State) (x : DomainId) (v : Word) : (s.accept x v).arbiter = s.arbiter := by simp [State.accept]
@[simp] theorem State.accept_memory (s : State) (x : DomainId) (v : Word) : (s.accept x v).memory = s.memory := by simp [State.accept]
@[simp] theorem State.accept_clock (s : State) (x : DomainId) (v : Word) : (s.accept x v).clock = s.clock := by simp [State.accept]
@[simp] theorem State.accept_rq (s : State) (x : DomainId) (v : Word) : (s.accept x v).rq = s.rq := by simp [State.accept]
@[simp] theorem State.accept_resetAsserted (s : State) (x : DomainId) (v : Word) : (s.accept x v).resetAsserted = s.resetAsserted := by simp [State.accept]
@[simp] theorem State.accept_readData (s : State) (x : DomainId) (v : Word) : (s.accept x v).readData = s.readData := by simp [State.accept]
@[simp] theorem State.accept_pending (s : State) (x : DomainId) (v : Word) : (s.accept x v).pending = s.pending := by simp [State.accept]
@[simp] theorem State.accept_window (s : State) (x : DomainId) (v : Word) (h : Handle) : (s.accept x v).window h = s.window h := by
  simp only [State.window, State.accept_windows]
@[simp] theorem State.accept_pendingCauses (s : State) (x : DomainId) (v : Word) (h : Handle) : (s.accept x v).pendingCauses h = s.pendingCauses h := by
  simp only [State.pendingCauses, State.accept_causes]
@[simp] theorem State.accept_channel (s : State) (x : DomainId) (v : Word) (c : ChannelId) : (s.accept x v).channel c = s.channel c := by
  simp only [State.channel, State.accept_channels]
@[simp] theorem State.accept_domain (s : State) (x : DomainId) (v : Word) (d : DomainId) : (s.accept x v).domain d = s.domain d := by
  simp only [State.domain, State.accept_domains]
@[simp] theorem State.accept_notice (s : State) (x : DomainId) (v : Word) (d : DomainId) : (s.accept x v).notice d = s.notice d := by
  simp only [State.notice, State.accept_notices]
@[simp] theorem State.accept_inFlight (s : State) (x : DomainId) (v : Word) (h : Handle) : (s.accept x v).inFlight h = s.inFlight h := by
  simp only [State.inFlight, State.accept_memory]

/-! ## retire -/

@[simp] theorem State.retire_windows (s : State) (x : DomainId) (l : Level) : (s.retire x l).windows = s.windows := by simp [State.retire]
@[simp] theorem State.retire_causes (s : State) (x : DomainId) (l : Level) : (s.retire x l).causes = s.causes := by simp [State.retire]
@[simp] theorem State.retire_channels (s : State) (x : DomainId) (l : Level) : (s.retire x l).channels = s.channels := by simp [State.retire]
@[simp] theorem State.retire_domains (s : State) (x : DomainId) (l : Level) : (s.retire x l).domains = s.domains := by simp [State.retire]
@[simp] theorem State.retire_ports (s : State) (x : DomainId) (l : Level) : (s.retire x l).ports = s.ports := by simp [State.retire]
@[simp] theorem State.retire_arbiter (s : State) (x : DomainId) (l : Level) : (s.retire x l).arbiter = s.arbiter := by simp [State.retire]
@[simp] theorem State.retire_memory (s : State) (x : DomainId) (l : Level) : (s.retire x l).memory = s.memory := by simp [State.retire]
@[simp] theorem State.retire_clock (s : State) (x : DomainId) (l : Level) : (s.retire x l).clock = s.clock := by simp [State.retire]
@[simp] theorem State.retire_rq (s : State) (x : DomainId) (l : Level) : (s.retire x l).rq = s.rq := by simp [State.retire]
@[simp] theorem State.retire_resetAsserted (s : State) (x : DomainId) (l : Level) : (s.retire x l).resetAsserted = s.resetAsserted := by simp [State.retire]
@[simp] theorem State.retire_readData (s : State) (x : DomainId) (l : Level) : (s.retire x l).readData = s.readData := by simp [State.retire]
@[simp] theorem State.retire_pending (s : State) (x : DomainId) (l : Level) : (s.retire x l).pending = s.pending := by simp [State.retire]
@[simp] theorem State.retire_window (s : State) (x : DomainId) (l : Level) (h : Handle) : (s.retire x l).window h = s.window h := by
  simp only [State.window, State.retire_windows]
@[simp] theorem State.retire_pendingCauses (s : State) (x : DomainId) (l : Level) (h : Handle) : (s.retire x l).pendingCauses h = s.pendingCauses h := by
  simp only [State.pendingCauses, State.retire_causes]
@[simp] theorem State.retire_channel (s : State) (x : DomainId) (l : Level) (c : ChannelId) : (s.retire x l).channel c = s.channel c := by
  simp only [State.channel, State.retire_channels]
@[simp] theorem State.retire_domain (s : State) (x : DomainId) (l : Level) (d : DomainId) : (s.retire x l).domain d = s.domain d := by
  simp only [State.domain, State.retire_domains]
@[simp] theorem State.retire_port (s : State) (x : DomainId) (l : Level) (d : DomainId) : (s.retire x l).port d = s.port d := by
  simp only [State.port, State.retire_ports]
@[simp] theorem State.retire_inFlight (s : State) (x : DomainId) (l : Level) (h : Handle) : (s.retire x l).inFlight h = s.inFlight h := by
  simp only [State.inFlight, State.retire_memory]

/-! ## finishDomains -/

@[simp] theorem State.finishDomains_windows (s : State) : (s.finishDomains).windows = s.windows := by simp [State.finishDomains]
@[simp] theorem State.finishDomains_causes (s : State) : (s.finishDomains).causes = s.causes := by simp [State.finishDomains]
@[simp] theorem State.finishDomains_channels (s : State) : (s.finishDomains).channels = s.channels := by simp [State.finishDomains]
@[simp] theorem State.finishDomains_notices (s : State) : (s.finishDomains).notices = s.notices := by simp [State.finishDomains]
@[simp] theorem State.finishDomains_ports (s : State) : (s.finishDomains).ports = s.ports := by simp [State.finishDomains]
@[simp] theorem State.finishDomains_arbiter (s : State) : (s.finishDomains).arbiter = s.arbiter := by simp [State.finishDomains]
@[simp] theorem State.finishDomains_memory (s : State) : (s.finishDomains).memory = s.memory := by simp [State.finishDomains]
@[simp] theorem State.finishDomains_clock (s : State) : (s.finishDomains).clock = s.clock := by simp [State.finishDomains]
@[simp] theorem State.finishDomains_rq (s : State) : (s.finishDomains).rq = s.rq := by simp [State.finishDomains]
@[simp] theorem State.finishDomains_resetAsserted (s : State) : (s.finishDomains).resetAsserted = s.resetAsserted := by simp [State.finishDomains]
@[simp] theorem State.finishDomains_readData (s : State) : (s.finishDomains).readData = s.readData := by simp [State.finishDomains]
@[simp] theorem State.finishDomains_pending (s : State) : (s.finishDomains).pending = s.pending := by simp [State.finishDomains]
@[simp] theorem State.finishDomains_window (s : State) (h : Handle) : (s.finishDomains).window h = s.window h := by
  simp only [State.window, State.finishDomains_windows]
@[simp] theorem State.finishDomains_pendingCauses (s : State) (h : Handle) : (s.finishDomains).pendingCauses h = s.pendingCauses h := by
  simp only [State.pendingCauses, State.finishDomains_causes]
@[simp] theorem State.finishDomains_channel (s : State) (c : ChannelId) : (s.finishDomains).channel c = s.channel c := by
  simp only [State.channel, State.finishDomains_channels]
@[simp] theorem State.finishDomains_notice (s : State) (d : DomainId) : (s.finishDomains).notice d = s.notice d := by
  simp only [State.notice, State.finishDomains_notices]
@[simp] theorem State.finishDomains_port (s : State) (d : DomainId) : (s.finishDomains).port d = s.port d := by
  simp only [State.port, State.finishDomains_ports]
@[simp] theorem State.finishDomains_inFlight (s : State) (h : Handle) : (s.finishDomains).inFlight h = s.inFlight h := by
  simp only [State.inFlight, State.finishDomains_memory]

/-! ## finishTeardown -/

@[simp] theorem State.finishTeardown_windows (s : State) : (s.finishTeardown).windows = s.windows := by
  unfold State.finishTeardown; repeat' split
  all_goals simp
@[simp] theorem State.finishTeardown_causes (s : State) : (s.finishTeardown).causes = s.causes := by
  unfold State.finishTeardown; repeat' split
  all_goals simp
@[simp] theorem State.finishTeardown_channels (s : State) : (s.finishTeardown).channels = s.channels := by
  unfold State.finishTeardown; repeat' split
  all_goals simp
@[simp] theorem State.finishTeardown_notices (s : State) : (s.finishTeardown).notices = s.notices := by
  unfold State.finishTeardown; repeat' split
  all_goals simp
@[simp] theorem State.finishTeardown_arbiter (s : State) : (s.finishTeardown).arbiter = s.arbiter := by
  unfold State.finishTeardown; repeat' split
  all_goals simp
@[simp] theorem State.finishTeardown_memory (s : State) : (s.finishTeardown).memory = s.memory := by
  unfold State.finishTeardown; repeat' split
  all_goals simp
@[simp] theorem State.finishTeardown_clock (s : State) : (s.finishTeardown).clock = s.clock := by
  unfold State.finishTeardown; repeat' split
  all_goals simp
@[simp] theorem State.finishTeardown_rq (s : State) : (s.finishTeardown).rq = s.rq := by
  unfold State.finishTeardown; repeat' split
  all_goals simp
@[simp] theorem State.finishTeardown_resetAsserted (s : State) : (s.finishTeardown).resetAsserted = s.resetAsserted := by
  unfold State.finishTeardown; repeat' split
  all_goals simp
@[simp] theorem State.finishTeardown_readData (s : State) : (s.finishTeardown).readData = s.readData := by
  unfold State.finishTeardown; repeat' split
  all_goals simp
@[simp] theorem State.finishTeardown_pending (s : State) : (s.finishTeardown).pending = s.pending := by
  unfold State.finishTeardown; repeat' split
  all_goals simp
@[simp] theorem State.finishTeardown_window (s : State) (h : Handle) : (s.finishTeardown).window h = s.window h := by
  simp only [State.window, State.finishTeardown_windows]
@[simp] theorem State.finishTeardown_pendingCauses (s : State) (h : Handle) : (s.finishTeardown).pendingCauses h = s.pendingCauses h := by
  simp only [State.pendingCauses, State.finishTeardown_causes]
@[simp] theorem State.finishTeardown_channel (s : State) (c : ChannelId) : (s.finishTeardown).channel c = s.channel c := by
  simp only [State.channel, State.finishTeardown_channels]
@[simp] theorem State.finishTeardown_notice (s : State) (d : DomainId) : (s.finishTeardown).notice d = s.notice d := by
  simp only [State.notice, State.finishTeardown_notices]
@[simp] theorem State.finishTeardown_inFlight (s : State) (h : Handle) : (s.finishTeardown).inFlight h = s.inFlight h := by
  simp only [State.inFlight, State.finishTeardown_memory]

/-! ## discardCompletion -/

@[simp] theorem State.discardCompletion_windows (s : State) : (s.discardCompletion).windows = s.windows := by simp [State.discardCompletion]
@[simp] theorem State.discardCompletion_causes (s : State) : (s.discardCompletion).causes = s.causes := by simp [State.discardCompletion]
@[simp] theorem State.discardCompletion_channels (s : State) : (s.discardCompletion).channels = s.channels := by simp [State.discardCompletion]
@[simp] theorem State.discardCompletion_domains (s : State) : (s.discardCompletion).domains = s.domains := by simp [State.discardCompletion]
@[simp] theorem State.discardCompletion_notices (s : State) : (s.discardCompletion).notices = s.notices := by simp [State.discardCompletion]
@[simp] theorem State.discardCompletion_ports (s : State) : (s.discardCompletion).ports = s.ports := by simp [State.discardCompletion]
@[simp] theorem State.discardCompletion_arbiter (s : State) : (s.discardCompletion).arbiter = s.arbiter := by simp [State.discardCompletion]
@[simp] theorem State.discardCompletion_clock (s : State) : (s.discardCompletion).clock = s.clock := by simp [State.discardCompletion]
@[simp] theorem State.discardCompletion_rq (s : State) : (s.discardCompletion).rq = s.rq := by simp [State.discardCompletion]
@[simp] theorem State.discardCompletion_resetAsserted (s : State) : (s.discardCompletion).resetAsserted = s.resetAsserted := by simp [State.discardCompletion]
@[simp] theorem State.discardCompletion_readData (s : State) : (s.discardCompletion).readData = s.readData := by simp [State.discardCompletion]
@[simp] theorem State.discardCompletion_pending (s : State) : (s.discardCompletion).pending = s.pending := by simp [State.discardCompletion]
@[simp] theorem State.discardCompletion_window (s : State) (h : Handle) : (s.discardCompletion).window h = s.window h := by
  simp only [State.window, State.discardCompletion_windows]
@[simp] theorem State.discardCompletion_pendingCauses (s : State) (h : Handle) : (s.discardCompletion).pendingCauses h = s.pendingCauses h := by
  simp only [State.pendingCauses, State.discardCompletion_causes]
@[simp] theorem State.discardCompletion_channel (s : State) (c : ChannelId) : (s.discardCompletion).channel c = s.channel c := by
  simp only [State.channel, State.discardCompletion_channels]
@[simp] theorem State.discardCompletion_domain (s : State) (d : DomainId) : (s.discardCompletion).domain d = s.domain d := by
  simp only [State.domain, State.discardCompletion_domains]
@[simp] theorem State.discardCompletion_notice (s : State) (d : DomainId) : (s.discardCompletion).notice d = s.notice d := by
  simp only [State.notice, State.discardCompletion_notices]
@[simp] theorem State.discardCompletion_port (s : State) (d : DomainId) : (s.discardCompletion).port d = s.port d := by
  simp only [State.port, State.discardCompletion_ports]

/-! ## A port record is read by none of them -/

theorem updPort_grantDecision (s : State) (d : DomainId) (f : Port → Port) :
    (s.updPort d f).grantDecision = s.grantDecision.updPort d f := by
  have hw : (s.updPort d f).winner = s.winner := rfl
  have hi : ∀ (t : State) (c : ChannelId), (t.updPort d f).issue c = (t.issue c).updPort d f := by
    intro t c
    simp only [State.issue, State.updPort_channel, State.updPort_window]
    split
    · rfl
    · split <;> rfl
  by_cases hc : s.arbiter.holder = none ∧ s.arbiter.run = .run
  · have hc' : (s.updPort d f).arbiter.holder = none ∧ (s.updPort d f).arbiter.run = .run := hc
    unfold State.grantDecision
    rw [if_pos hc, if_pos hc', hw]
    cases hk : s.winner with
    | none => rfl
    | some p =>
      obtain ⟨k, c⟩ := p
      simp only [State.grant, ← hi]
      rfl
  · have hc' : ¬ ((s.updPort d f).arbiter.holder = none ∧ (s.updPort d f).arbiter.run = .run) := hc
    unfold State.grantDecision
    rw [if_neg hc, if_neg hc']

theorem complete_grantDecision (s : State) (d : DomainId) (o : OutcomeCode) (r : Words4) :
    (s.complete d o r).grantDecision = s.grantDecision.complete d o r :=
  updPort_grantDecision s d _

theorem updPort_raise (s : State) (d : DomainId) (f : Port → Port) (h : Handle) (x : Cause) :
    (s.updPort d f).raise h x = (s.raise h x).updPort d f := by
  unfold State.raise
  simp only [State.updPort_window]
  split
  · rfl
  · split
    · rfl
    · by_cases hp : s.pendingCauses h = 0
      · have hp' : (s.updPort d f).pendingCauses h = 0 := hp
        rw [if_pos hp, if_pos hp']
        rfl
      · have hp' : ¬ (s.updPort d f).pendingCauses h = 0 := hp
        rw [if_neg hp, if_neg hp']
        rfl

end Sys2Proof.Machine
end

