-- ==== Sys2Proof/Laws/Commands.lean ====
section
/-! SUPPORT. A host command from its write to its completion, said once: how the statements' words (Admits, Answers, StartsWait,
Refused, Frame) follow from what a command's own block answers. -/

namespace Sys2Proof.Machine

/-- A command word written at an aperture that admits it is taken by the command's own block (R161, R162). -/
theorem hostWrite_commandWrite_admitted {s : State} {a : Access} {d : DomainId} (hA : Admits s a d) (k t : BitVec 8)
    (u : BitVec 16) (body : DomainId → BitVec 8 → State → Completion) :
    s.hostWrite a (fun d => s.commandWrite d (commandWord k t u) body) =
      (body d t (s.accept d (commandWord k t u))).apply (s.accept d (commandWord k t u)) d := by
  obtain ⟨⟨hr, ha⟩, hb, ho⟩ := hA
  rw [hostWrite_reaches _ hr ha, commandWrite_open hb ho, targetField_commandWord]

theorem OnlyPort.of_updPort (s : State) (d : DomainId) (f : Port → Port) : OnlyPort s (s.updPort d f) d := by
  intro x hx
  simp [hx]

/-- A completion of an accepted command whose block changed no port record. -/
theorem answers_complete {s t : State} {d : DomainId} {word : Word} (o : OutcomeCode) (r : Words4)
    (hp : t.ports = (s.accept d word).ports) : Answers s (t.complete d o r) d word o r := by
  have hq : ∀ e, t.port e = (s.accept d word).port e := fun e => by simp only [State.port, hp]
  refine ⟨?_, fun x hx => ?_⟩
  · rw [port_complete, if_pos rfl, hq, port_accept, if_pos rfl]
    rfl
  · rw [port_complete, if_neg hx, hq, port_accept, if_neg hx]

/-- A wait of an accepted command whose block changed no port record. -/
theorem startsWait_updPort {s t : State} {d : DomainId} {word : Word} (y : Waiting)
    (hp : t.ports = (s.accept d word).ports) :
    StartsWait s (t.updPort d fun p => { p with waiting := some y }) d word y := by
  have hq : ∀ e, t.port e = (s.accept d word).port e := fun e => by simp only [State.port, hp]
  refine ⟨?_, fun x hx => ?_⟩
  · rw [State.updPort_port, if_pos rfl, hq, port_accept, if_pos rfl]
  · rw [State.updPort_port, if_neg hx, hq, port_accept, if_neg hx]

/-- What a completion changes beside what the command's block changed. -/
theorem Frame.complete {s t : State} {d : DomainId} {word : Word} {o : OutcomeCode} {r : Words4} {l : List Block}
    (hl : Block.ports ∈ l) (h : Frame (s.accept d word) t l) : Frame s (t.complete d o r) l := by
  intro b hb
  have := h b hb
  cases b <;> first | exact absurd hl hb | simpa [SameIn] using this

/-- What the start of a wait changes beside what the command's block changed. -/
theorem Frame.wait {s t : State} {d : DomainId} {word : Word} {f : Port → Port} {l : List Block}
    (hl : Block.ports ∈ l) (h : Frame (s.accept d word) t l) : Frame s (t.updPort d f) l := by
  intro b hb
  have := h b hb
  cases b <;> first | exact absurd hl hb | simpa [SameIn] using this

theorem Frame.refl (s : State) (l : List Block) : Frame s s l := by
  intro b _
  cases b <;> rfl

theorem Frame.trans {s t v : State} {l : List Block} (h : Frame s t l) (g : Frame t v l) : Frame s v l := by
  intro b hb
  have h1 := h b hb
  have h2 := g b hb
  cases b <;> exact Eq.trans h2 h1

/-- A command that its own block refuses completes with that outcome and changes nothing else (R165). -/
theorem refused_of {s : State} {i : Instr} {a : Access} {d : DomainId} {o : OutcomeCode} {k t : BitVec 8} {u : BitVec 16}
    {body : DomainId → BitVec 8 → State → Completion} (hA : Admits s a d)
    (hi : exec i s = .next (s.hostWrite a fun d => s.commandWrite d (commandWord k t u) body))
    (hw : wordOf i = commandWord k t u) (hb : body d t (s.accept d (commandWord k t u)) = .refused o) :
    Refused s i d o := by
  refine ⟨_, hi, ?_⟩
  rw [hostWrite_commandWrite_admitted hA, hb, hw]
  exact ⟨answers_complete _ _ rfl, Frame.complete (by simp) (Frame.refl _ _)⟩

/-- A command that its own block completes DONE. -/
theorem exec_done {s v : State} {i : Instr} {a : Access} {d : DomainId} {r : Words4} {k t : BitVec 8} {u : BitVec 16}
    {body : DomainId → BitVec 8 → State → Completion} (hA : Admits s a d)
    (hi : exec i s = .next (s.hostWrite a fun d => s.commandWrite d (commandWord k t u) body))
    (hb : body d t (s.accept d (commandWord k t u)) = .done v r) : exec i s = .next (v.complete d .done r) := by
  rw [hi, hostWrite_commandWrite_admitted hA, hb]
  rfl

/-- A command that its own block makes wait. -/
theorem exec_waits {s v : State} {i : Instr} {a : Access} {d : DomainId} {x : Waiting} {k t : BitVec 8} {u : BitVec 16}
    {body : DomainId → BitVec 8 → State → Completion} (hA : Admits s a d)
    (hi : exec i s = .next (s.hostWrite a fun d => s.commandWrite d (commandWord k t u) body))
    (hb : body d t (s.accept d (commandWord k t u)) = .waits v x) :
    exec i s = .next (v.updPort d fun p => { p with waiting := some x }) := by
  rw [hi, hostWrite_commandWrite_admitted hA, hb]
  rfl

/-! ## What a search answers -/

theorem find_finRange {n : Nat} {p : Fin n → Bool} {i : Fin n} :
    (List.finRange n).find? p = some i ↔ p i = true ∧ ∀ j < i, p j = false := by
  rw [List.find?_eq_some_iff_getElem]
  constructor
  · rintro ⟨h, k, hk, he, hj⟩
    simp at he
    refine ⟨h, fun j hji => ?_⟩
    have := hj j.val (by rw [← he] at hji; exact hji)
    simpa using this
  · rintro ⟨h, hj⟩
    refine ⟨h, i.val, by simp, by simp, fun k hk => ?_⟩
    have := hj ⟨k, by omega⟩ hk
    simpa using this

theorem qualifies_iff (r : RangeSlot) (x : Setting) : r.qualifies x = true ↔ SlotQualifies r x := by
  unfold RangeSlot.qualifies SlotQualifies
  simp only [Bool.and_eq_true, decide_eq_true_eq]
  cases hd : x.direction <;> simp [pageOf, Config.pageBytes, and_assoc]

theorem homeFor_eq_none {s : State} {d : DomainId} {x : Setting} :
    s.homeFor d x = none ↔ ∀ (i : SlotId) (r : RangeSlot), (s.domain d).slots[i] = some r → ¬ SlotQualifies r x := by
  simp only [State.homeFor, List.find?_eq_none, List.mem_finRange, true_implies]
  constructor
  · intro h i r hr hq
    have := h i
    rw [hr] at this
    simp [qualifies_iff, hq] at this
  · intro h i
    cases hr : (s.domain d).slots[i] with
    | none => simp
    | some r => have := h i r hr; simpa [qualifies_iff] using this

theorem homeFor_eq_some {s : State} {d : DomainId} {x : Setting} {i : SlotId} :
    s.homeFor d x = some i ↔ HomeIs s d x i := by
  rw [State.homeFor, find_finRange]
  unfold HomeIs
  constructor
  · rintro ⟨h, hj⟩
    cases hr : (s.domain d).slots[i] with
    | none => rw [hr] at h; simp at h
    | some r =>
      rw [hr] at h
      refine ⟨⟨r, rfl, by simpa [qualifies_iff] using h⟩, fun j hji r' hr' hq => ?_⟩
      have := hj j hji
      rw [hr'] at this
      simp [(qualifies_iff r' x).mpr hq] at this
  · rintro ⟨⟨r, hr, hq⟩, hj⟩
    refine ⟨by rw [hr]; simpa [qualifies_iff] using hq, fun j hji => ?_⟩
    cases hr' : (s.domain d).slots[j] with
    | none => simp
    | some r' => have := hj j hji r' hr'; rw [← qualifies_iff] at this; simpa using this

theorem freeHandle_eq_some {s : State} {h : Handle} : s.freeHandle = some h ↔ LowestFree s h := by
  rw [State.freeHandle, handles, find_finRange]
  simp only [LowestFree, Option.isNone_iff_eq_none, Option.isNone_eq_false_iff, Option.isSome_iff_ne_none]

theorem freeHandle_eq_none {s : State} : s.freeHandle = none ↔ ∀ h : Handle, s.window h ≠ none := by
  simp [State.freeHandle, handles, List.find?_eq_none]

theorem entryOf_eq_none {n : NoticeRecord} {h : Handle} :
    n.entryOf h = none ↔ ∀ (l : Level) (e : NoticeEntry), n.service[l] = some e → e.window ≠ h := by
  simp only [NoticeRecord.entryOf, List.findSome?_eq_none_iff, levels, List.mem_finRange, true_implies]
  constructor
  · intro hh l e he hw
    have := hh l
    rw [he] at this
    simp [hw] at this
  · intro hh l
    cases he : n.service[l] with
    | none => rfl
    | some e => simp [hh l e he]

theorem leaseCounts_iff {s : State} {h : Handle} :
    s.leaseCounts h = true ↔ ∃ w, s.window h = some w ∧ LeaseRuns s w := by
  unfold State.leaseCounts LeaseRuns
  cases hw : s.window h with
  | none => simp
  | some w =>
    cases hc : w.channel with
    | none => simp [hc]
    | some c => simp [hc, and_assoc]

theorem expires_iff {s : State} {h : Handle} : s.expires h = true ↔ LeaseRunsOut s h := by
  unfold State.expires LeaseRunsOut
  rw [Bool.and_eq_true, leaseCounts_iff]
  cases hw : s.window h with
  | none => simp
  | some w => simp

theorem findSome_finRange {n : Nat} {α : Type} {f : Fin n → Option α} {i : Fin n} {x : α} (h : f i = some x)
    (hj : ∀ j < i, f j = none) : (List.finRange n).findSome? f = some x := by
  have h1 : (List.finRange n).find? (fun k => (f k).isSome) = some i :=
    find_finRange.mpr ⟨by simp [h], fun j hji => by simp [hj j hji]⟩
  have h2 : ∀ l : List (Fin n), l.findSome? f = (l.find? fun k => (f k).isSome).bind f := by
    intro l
    induction l with
    | nil => rfl
    | cons a l ih =>
      simp only [List.findSome?_cons, List.find?_cons]
      cases ha : f a with
      | none => simp [ih]
      | some y => simp [ha]
  rw [h2, h1]
  exact h

/-! ## What parameter words name -/

theorem guard_some {p : Prop} [Decidable p] {u : Unit} : (guard p : Option Unit) = some u ↔ p := by
  by_cases h : p <;> simp [guard, h]

theorem levelOfCode_eq_some {v : Nat} {o : Option Level} : levelOfCode v = some o ↔ v = o.elim 8 Fin.val := by
  unfold levelOfCode index?
  cases o with
  | none => by_cases h : v = 8 <;> simp [h]
  | some l =>
    have := l.isLt
    by_cases h : v = 8 <;> by_cases h8 : v < 8 <;> simp [h, h8, Fin.ext_iff] <;> omega

/-- The notify decoder answers exactly what the layouts of the notify word and the tag word name (R12, R21, R177). -/
theorem decodeNotify_eq_some {n t : Word} {x : Notify} : decodeNotify n t = some x ↔ NotifyGiven n t x := by
  rcases x with ⟨lim, lev, sp, lap, tag⟩
  simp only [decodeNotify, bit, NotifyGiven, Option.bind_eq_bind, Option.bind_eq_some_iff, levelOfCode_eq_some,
    guard_some, Option.some.injEq, Notify.mk.injEq]
  constructor
  · rintro ⟨_, hl, _, hm, rfl, rfl, rfl, rfl, rfl⟩
    exact ⟨rfl, hm, hl, rfl, rfl, rfl⟩
  · rintro ⟨rfl, hm, hl, rfl, rfl, rfl⟩
    exact ⟨lev, hl, (), hm, rfl, rfl, rfl, rfl, rfl⟩

/-- A notify word names five fields unless it names no value in one of them. -/
theorem notifyGiven_of_not_bad {n : Word} (t : Word) (h : ¬ NotifyBad n) : ∃ x, NotifyGiven n t x := by
  simp only [NotifyBad, not_or, Nat.not_lt] at h
  refine ⟨⟨_, if hv : bits n 16 4 < 8 then some ⟨_, hv⟩ else none, _, _, _⟩, rfl, h.2, ?_, rfl, rfl, rfl⟩
  split
  · rfl
  · show _ = 8
    omega

theorem not_bad_of_notifyGiven {n t : Word} {x : Notify} (h : NotifyGiven n t x) : ¬ NotifyBad n := by
  obtain ⟨h1, h2, h3, -⟩ := h
  have : x.level.elim 8 Fin.val ≤ 8 := by
    cases x.level with
    | none => exact Nat.le_refl _
    | some l => exact Nat.le_of_lt l.isLt
  unfold NotifyBad
  omega

/-- The notify decoder refuses exactly the words that name no value in one of their fields (R12, R21). -/
theorem decodeNotify_eq_none {n t : Word} : decodeNotify n t = none ↔ NotifyBad n := by
  rw [Option.eq_none_iff_forall_ne_some]
  constructor
  · intro h
    by_contra hb
    obtain ⟨x, hx⟩ := notifyGiven_of_not_bad t hb
    exact h x (decodeNotify_eq_some.mpr hx)
  · exact fun hb x hx => not_bad_of_notifyGiven (decodeNotify_eq_some.mp hx) hb

theorem size_ofCode {v : Nat} {x : UnitSize} : UnitSize.ofCode v = some x ↔ v = x.bytes := by
  unfold UnitSize.ofCode
  split <;> cases x <;> simp_all [UnitSize.bytes]

theorem step_ofCode {v : Nat} {x : AddressStep} : AddressStep.ofCode v = some x ↔ v = x.code := by
  unfold AddressStep.ofCode
  split <;> cases x <;> simp_all [AddressStep.code]

theorem direction_ofCode {v : Nat} {x : Direction} : Direction.ofCode v = some x ↔ v = x.code := by
  unfold Direction.ofCode
  split <;> cases x <;> simp_all [Direction.code]

/-- The setting decoder answers exactly what the layouts of PARAM0 to PARAM3 name (R2, R12, R177). -/
theorem decodeSetting_eq_some {p : Words4} {x : Setting} : decodeSetting p = some x ↔ SettingGiven p x := by
  rcases x with ⟨base, size, step, dir, count, reload, nt⟩
  simp only [decodeSetting, bit, SettingGiven, Option.bind_eq_bind, Option.bind_eq_some_iff, size_ofCode, step_ofCode,
    direction_ofCode, guard_some, decodeNotify_eq_some, Option.some.injEq, Setting.mk.injEq]
  constructor
  · rintro ⟨_, hz, _, hs, _, hd, _, hc, _, hn, rfl, rfl, rfl, rfl, rfl, rfl, rfl⟩
    exact ⟨rfl, hz, hs, hd, rfl, hc.1, hc.2, rfl, hn⟩
  · rintro ⟨rfl, hz, hs, hd, rfl, h1, h2, rfl, hn⟩
    exact ⟨size, hz, step, hs, dir, hd, (), ⟨h1, h2⟩, nt, hn, rfl, rfl, rfl, rfl, rfl, rfl, rfl⟩

/-- A setting exists for the words that name a value in every field. -/
theorem settingGiven_of_not_bad {p : Words4} (h : ¬ SettingBad p) : ∃ x, SettingGiven p x := by
  simp only [SettingBad, not_or, Nat.not_lt, Decidable.not_not] at h
  obtain ⟨hz, hs, hd, h0, h1, hn⟩ := h
  have h4 : bits p[1] 20 2 < 4 ∧ bits p[1] 22 2 < 4 := ⟨BitVec.isLt _, BitVec.isLt _⟩
  obtain ⟨z, hz⟩ : ∃ z : UnitSize, bits p[1] 17 3 = z.bytes := by
    simp only [List.mem_cons, List.not_mem_nil, or_false] at hz
    rcases hz with hz | hz | hz
    · exact ⟨.one, hz⟩
    · exact ⟨.two, hz⟩
    · exact ⟨.four, hz⟩
  obtain ⟨st, hs⟩ : ∃ st : AddressStep, bits p[1] 20 2 = st.code := by
    obtain hs | hs | hs : bits p[1] 20 2 = 0 ∨ bits p[1] 20 2 = 1 ∨ bits p[1] 20 2 = 2 := by omega
    · exact ⟨.up, hs⟩
    · exact ⟨.down, hs⟩
    · exact ⟨.fixed, hs⟩
  obtain ⟨di, hd⟩ : ∃ di : Direction, bits p[1] 22 2 = di.code := by
    obtain hd | hd | hd : bits p[1] 22 2 = 0 ∨ bits p[1] 22 2 = 1 ∨ bits p[1] 22 2 = 2 := by omega
    · exact ⟨.inbound, hd⟩
    · exact ⟨.outbound, hd⟩
    · exact ⟨.check, hd⟩
  obtain ⟨nt, hn⟩ := notifyGiven_of_not_bad p[3] hn
  exact ⟨⟨_, z, st, di, _, _, nt⟩, rfl, hz, hs, hd, rfl, Nat.one_le_iff_ne_zero.mpr h0, h1, rfl, hn⟩

theorem not_bad_of_settingGiven {p : Words4} {x : Setting} (h : SettingGiven p x) : ¬ SettingBad p := by
  obtain ⟨-, hz, hs, hd, hc, h1, h2, -, hn⟩ := h
  have hnb := not_bad_of_notifyGiven hn
  unfold SettingBad
  rw [hz, hs, hd, ← hc]
  cases x.size <;> cases x.step <;> cases x.direction <;>
    simp [UnitSize.bytes, AddressStep.code, Direction.code, hnb] <;> omega

/-- The setting decoder refuses exactly the words that name no value in one of their fields (R12). -/
theorem decodeSetting_eq_none {p : Words4} : decodeSetting p = none ↔ SettingBad p := by
  rw [Option.eq_none_iff_forall_ne_some]
  constructor
  · intro h
    by_contra hb
    obtain ⟨x, hx⟩ := settingGiven_of_not_bad hb
    exact h x (decodeSetting_eq_some.mpr hx)
  · exact fun hb x hx => not_bad_of_settingGiven (decodeSetting_eq_some.mp hx) hb

/-- The level test of the next notice is the words of R121. -/
theorem admits_iff {n : NoticeRecord} {l : Level} : n.admits l = true ↔ LevelOpen n l := by
  unfold NoticeRecord.admits NoticeRecord.unheld LevelOpen
  cases hm : n.mode with
  | flat => simp
  | nested =>
    simp only [Bool.and_eq_true, Bool.not_eq_true', List.all_eq_true, levels, List.mem_finRange, true_implies,
      Bool.or_eq_true, decide_eq_true_eq, Option.isNone_iff_eq_none]
    refine and_congr_right fun _ => ⟨fun h => ⟨(h l).resolve_left (Nat.lt_irrefl _), fun k hk =>
      (h k).resolve_left (Nat.lt_asymm hk)⟩, fun h k => ?_⟩
    rcases Nat.lt_trichotomy k.val l.val with hk | hk | hk
    · exact .inr (h.2 k hk)
    · exact .inr (Fin.ext hk ▸ h.1)
    · exact .inl hk

/-! ## Channel commands, heads and settling -/

theorem onChannel_own {s : State} {d : DomainId} {t : BitVec 8} {c : ChannelId} {w : Word} (ht : t.toNat = c.val)
    (ho : (s.channel c).owner = some d) (k : ChannelId → Completion) : (s.accept d w).onChannel d t k = k c := by
  simp only [State.onChannel, ht, index?_val, State.accept_channel, ho, if_true]

theorem settled_of_not_idle (ch : Channel) (h : ch.state ≠ .idle) : ch.settled = settlesTo ch := by
  simp only [Channel.settled, settlesTo, h, if_false, List.isEmpty_iff]
  rfl

/-- All that the activation of a head does (R36). -/
theorem window_activateHead (s : State) (c : ChannelId) (x : Handle) :
    (s.activateHead c).window x =
      if (s.channel c).chain.head? = some x then (s.window x).map asHead else s.window x := by
  unfold State.activateHead
  split
  · next hh => simp [hh]
  · next h r hh =>
    simp only [hh, List.head?_cons, Option.some.injEq, State.updWindow_window]
    by_cases hx : x = h
    · subst hx
      simp
      rfl
    · simp [hx, Ne.symm hx]

/-! ## The override -/

theorem raiseOverride_updPort (s : State) (d e : DomainId) (h : Handle) (w : Window) (f : Port → Port) :
    (s.raiseOverride d h w).updPort e f = withOverride (s.updPort e f) d w.owner h := by
  simp only [State.raiseOverride, isOverride, withOverride, updPort_raise]
  by_cases a : d = 0 <;> by_cases b : w.owner = 0 <;> simp [a, b]

/-! ## Grants that are not due -/

/-- Without a PENDING channel no class has a winner (R55). -/
theorem winner_eq_none {s : State} (h : ∀ c : ChannelId, (s.channel c).state ≠ .pending) : s.winner = none := by
  simp [State.winner, List.findSome?_eq_none_iff, State.contends, h]

/-- Where no grant is due the grant decision does nothing (R54). -/
theorem grantDecision_of_noGrantDue {s : State} (h : NoGrantDue s) : s.grantDecision = s := by
  unfold State.grantDecision
  split
  · rename_i hr
    rw [winner_eq_none (h hr.1 hr.2)]
  · rfl

/-- Whether a grant is due is a matter of the arbiter and the channels alone. -/
theorem NoGrantDue.congr {s t : State} (h : NoGrantDue s) (ha : t.arbiter = s.arbiter) (hc : t.channels = s.channels) :
    NoGrantDue t := by
  simpa only [NoGrantDue, State.channel, ha, hc] using h

end Sys2Proof.Machine
end

