-- ==== Sys2Proof/Tests/Slice0.lean ====
section
/-! SUPPORT. Tests with expected values from the spec, and a witness for the hypotheses of every statement. -/

namespace Sys2Proof.Tests

open Sys2Proof.Machine

/-! ## Small states -/

/-- An access to one aperture. -/
def acc (d : DomainId) : Access := { chipSelects := 1#4 <<< d.val, bothStrobes := false }

/-- What a command leaves. -/
def after (i : Instr) (s : State) : State :=
  match exec i s with
  | .next t => t
  | .fault _ => s
  | .refused _ => s

/-- A window of domain 1 in this state: INBOUND, UP, unit size 4, base 00210000H, two units, level 3, tag BEEFH. -/
def win (st : WindowState) : Window where
  state := st
  owner := 1
  home := 0
  base := 0x00210000
  size := .four
  step := .up
  direction := .inbound
  count := 2
  reload := false
  remaining := if st = .spent then 0 else 2
  address := if st = .spent then 0x00210008 else 0x00210000
  laps := 0
  channel := match st with
    | .linked | .active | .draining => some 5
    | .parked | .spent | .failed => none
  level := some 3
  onSpent := true
  onLap := true
  leaseLimit := 5
  lease := 1
  fault := if st = .failed then some .busError else none
  tag := 0xBEEF

/-- Domain 1, OPEN with quota 4, its slot 0 the pages 200H to 2FFH with both rights, holding windows homed there. -/
def dom (held : Nat) : Domain :=
  { Domain.closed with
    state := .opened
    quota := 4
    held := held
    slots := #v[some { first := 0x200, last := 0x2FF, read := true, write := true, homes := held }, none, none, none] }

/-- Channel 5 of domain 1, BLOCK, class 2, burst limit 8. -/
def chan (st : ChannelState) (chain : List Handle) : Channel :=
  { Channel.reset with
    owner := some 1
    state := st
    mode := .block
    cls := 2
    burstLimit := 8
    chain := chain
    line := st = .pending || st = .moving }

/-- The reset state with domain 1 OPEN, window 7 its own and channel 5 its own. -/
def base (w : Option Window) (ch : Channel) : State :=
  { State.reset with
    windows := State.reset.windows.set 7 w
    channels := State.reset.channels.set 5 ch
    domains := #v[Domain.supervisor, dom (if w.isSome then 1 else 0), Domain.closed, Domain.closed] }

/-- Window 7 alone, in a state off every chain. -/
def alone (st : WindowState) : State := base (some (win st)) (chan .off [])

/-- Window 7 the ACTIVE head of channel 5 in this state. -/
def queued (st : ChannelState) : State := base (some (win .active)) (chan st [7])

/-- Window 7's unit in flight, in this state and on this chain. -/
def flying (st : WindowState) (chain : List Handle) (ph : Phase) : State :=
  { base (some (win st)) (chan .moving chain) with
    arbiter := { Arbiter.reset with holder := some 5 }
    memory :=
      { record := some { unitFor 5 7 (win st) with phase := ph }
        stale := false } }

/-- The state with these parameter words in an aperture. -/
def given (s : State) (d : DomainId) (p0 : Word) (p1 : Word := 0) (p2 : Word := 0) (p3 : Word := 0) : State :=
  s.updPort d fun p => { p with params := #v[p0, p1, p2, p3] }

/-- The state with a lease clock of exponent 8 and unit limit 2. -/
def clocked (s : State) : State := { s with clock := { exponent := 8, unitLimit := 2, divider := 0 } }

/-- The state with the arbiter PAUSED. -/
def paused (s : State) : State := { s with arbiter := { s.arbiter with run := .paused } }

/-- The state with this entry in service in domain 1. -/
def serving (s : State) (l : Level) (h : Handle) (x : CauseSet) : State :=
  s.updNotice 1 fun n => n.setEntry l (some { window := h, causes := x })

/-- The state with window 7 pending at level 3 with this set of causes. -/
def notified (s : State) (x : CauseSet) : State := (s.joinList 1 3 7).setCauses 7 x

/-- Domain 1 under teardown by CLOSE DOMAIN, with window 7's unit in flight. -/
def closing : State :=
  ((flying .draining [] .busCycle).updDomain 1 fun x => { x with state := .closing, clearing := true, awaited := 1 }).updPort 0
    fun p => { p with waiting := some (.close 1 32) }

/-- Domains 0 and 1 under teardown by MASTER CLEAR, with window 7's unit in flight; domain 0 has its slot 0 present. -/
def clearing : State :=
  (closing.updDomain 0 fun x =>
    { x with
      clearing := true
      slots := x.slots.set 0 (some { first := 0, last := 0xFF, read := true, write := true, homes := 0 }) }).updPort 0
    fun p => { p with waiting := some (.masterClear 1 32) }

/-- OUTCOME and the RESULT words of an aperture. -/
def answer (s : State) (d : DomainId) : OutcomeCode × Word × Word × Word × Word :=
  ((s.port d).outcome, (s.port d).results[0], (s.port d).results[1], (s.port d).results[2], (s.port d).results[3])

/-- The state of a window, if it is live. -/
def stateOf (s : State) (h : Handle) : Option WindowState := (s.window h).map fun w => w.state

/-! ## Well-formed commands -/

/-- A listed code (10H, OPEN WINDOW) is not UNKNOWN_COMMAND's, and 4CH is. -/
theorem test_wellFormed_unknown :
    (Instr.unknownCommand (acc 0) 0x10).wellFormed = false ∧ (Instr.unknownCommand (acc 0) 0x4C).wellFormed = true := by
  decide

/-- Register 0 is COMMAND, which has rows of its own; register 1 is PARAM0. -/
theorem test_wellFormed_register :
    (Instr.registerWrite (acc 0) 0 0).wellFormed = false ∧ (Instr.registerWrite (acc 0) 1 0).wellFormed = true := by
  decide

/-! ## Command words (table of command codes) -/

/-- Window commands on handle 1EH (target field 15:8). -/
theorem test_decode_window :
    [0x1E10, 0x1E11, 0x1E12, 0x1E13, 0x1E14, 0x1E15, 0x1E16, 0x1E17].map (decodeCommandWord (acc 1)) =
      [.openWindow (acc 1) 30 0, .releaseWindow (acc 1) 30 0, .bindWindow (acc 1) 30 0, .revokeWindow (acc 1) 30 0,
        .rewindWindow (acc 1) 30 0, .amendWindow (acc 1) 30 0, .touchWindow (acc 1) 30 0, .readWindow (acc 1) 30 0] := by
  decide

/-- Channel commands on channel 11, with reserved bits set in the first. -/
theorem test_decode_channel :
    [0xFFFF0B20, 0x0B21, 0x0B22, 0x0B23, 0x0B24, 0x0B25, 0x0B26, 0x0B27, 0x0B28].map (decodeCommandWord (acc 2)) =
      [.enableChannel (acc 2) 11 0xFFFF, .disableChannel (acc 2) 11 0, .maskChannel (acc 2) 11 0,
        .unmaskChannel (acc 2) 11 0, .setChannel (acc 2) 11 0, .cutChain (acc 2) 11 0, .resumeChannel (acc 2) 11 0,
        .pulseChannel (acc 2) 11 0, .readChannel (acc 2) 11 0] := by
  decide

theorem test_decode_notice :
    [0x3F30, 0x31, 0x32].map (decodeCommandWord (acc 3)) =
      [.retireNotice (acc 3) 63 0, .retireTop (acc 3) 0 0, .setNotices (acc 3) 0 0] := by
  decide

theorem test_decode_supervisor :
    [0x0140, 0x0341, 0x0142, 0x0143, 0x0144, 0x0445, 0x0446, 0x47, 0x48, 0x49, 0x4A, 0x014B, 0x4F].map
        (decodeCommandWord (acc 0)) =
      [.openDomain (acc 0) 1 0, .closeDomain (acc 0) 3 0, .setQuota (acc 0) 1 0, .setRange (acc 0) 1 0,
        .clearRange (acc 0) 1 0, .assignChannel (acc 0) 4 0, .unassignChannel (acc 0) 4 0, .setArbiter (acc 0) 0 0,
        .pauseArbiter (acc 0) 0 0, .runArbiter (acc 0) 0 0, .setClock (acc 0) 0 0, .readDomain (acc 0) 1 0,
        .masterClear (acc 0) 0 0] := by
  decide

/-- The unlisted codes about the listed ones (R175). -/
theorem test_decode_unlisted :
    [0x00, 0x0F, 0x18, 0x1F, 0x29, 0x2F, 0x33, 0x3F, 0x4C, 0x4D, 0x4E, 0x50, 0xFF].all fun w => !listedCode w := by
  decide

/-! ## Parameter words (10_layouts_and_pins.md) -/

/-- Count 256, unit size 4, UP, INBOUND, no reload is 00080100H; level 2, notify on lap, lease limit 100 is 00220064H. -/
theorem test_setting_word :
    decodeSetting (words 0x1000 0x00080100 0x00220064 0xFFFF1234) =
      some
        { base := 0x1000, size := .four, step := .up, direction := .inbound, count := 256, reload := false
          notify := { leaseLimit := 100, level := some 2, onSpent := false, onLap := true, tag := 0x1234 } } := by
  decide

/-- The refused values of R177's table, and the largest accepted count beside the first refused. -/
theorem test_refused_values :
    decodeSetting (words 0 0x00080000 0 0) = none ∧ decodeSetting (words 0 0x00060001 0 0) = none ∧
      decodeSetting (words 0 0x00C80001 0 0) = none ∧ decodeNotify 0x00090000 0 = none ∧
      decodeNotify 0x1000 0 = none ∧ (decodeSetting (words 0 0x00090000 0 0)).isSome = true ∧
      decodeSetting (words 0 0x00090001 0 0) = none := by
  decide

theorem test_channel_and_clock_words :
    decodeChannelSetting 0x00100011 = some { mode := .demand, cls := 1, burstLimit := 16 } ∧
      decodeChannelSetting 0x00000001 = none ∧ (decodeChannelSetting 0x01000000).isSome = true ∧
      decodeChannelSetting 0x01010000 = none ∧ decodeChannelSetting 0x00010040 = none ∧
      decodeNoticeSetup 0x200 = none ∧ clockAccepted 7 0 = false ∧ clockAccepted 24 15 = true ∧
      clockAccepted 8 16 = false := by
  decide

/-- Extents of R2: a DOWN window of three units of 4 bytes at 100H covers F8H to 103H, and one at 4 leaves the space. -/
theorem test_extent_down :
    let x : Setting :=
      { base := 0x100, size := .four, step := .down, direction := .inbound, count := 3, reload := false
        notify := { leaseLimit := 0, level := none, onSpent := false, onLap := false, tag := 0 } }
    x.lowest = 0xF8 ∧ x.highest = 0x103 ∧ x.inSpace = true ∧ ({ x with base := 4 } : Setting).inSpace = false := by
  decide

/-! ## Window commands -/

/-- The bring-up sequence: 64 units of 2 bytes at 00200000H are given handle 0, RESULT0 0. -/
theorem test_open_window :
    let t := after (.openWindow (acc 1) 0 0) (given (base none (chan .off [])) 1 0x00200000 0x00040040 0x001301F4 1)
    answer t 1 = (.done, 0, 0, 0, 0) ∧
      ((t.window 0).map fun w => (w.remaining, w.lease, w.home)) = some (64, 500, 0) ∧ (t.domain 1).held = 1 := by
  decide

/-- The bring-up sequence: base 00200001H with unit size 2 is refused ALIGN. -/
theorem test_open_window_align :
    answer (after (.openWindow (acc 1) 0 0)
      (given (base none (chan .off [])) 1 0x00200001 0x00040040 0x001301F4 1)) 1 = (.align, 0, 0, 0, 0) := by
  decide

theorem test_release_window :
    let t := after (.releaseWindow (acc 1) 7 0) (alone .spent)
    answer t 1 = (.done, 0, 0, 0, 0) ∧ t.window 7 = none ∧ (t.domain 1).held = 0 := by
  decide

/-- The expiry sequence: a release with the notice in service is refused NOTICE-HELD. -/
theorem test_release_window_held :
    answer (after (.releaseWindow (acc 1) 7 0) (serving (alone .failed) 3 7 8)) 1 = (.noticeHeld, 0, 0, 0, 0) := by
  decide

/-- The bring-up sequence: a bind to an OFF channel's empty chain makes the window ACTIVE, RESULT0 00000103H. -/
theorem test_bind_window :
    let t := after (.bindWindow (acc 1) 7 0) (given (alone .parked) 1 5)
    answer t 1 = (.done, 0x103, 0, 0, 0) ∧ stateOf t 7 = some .active ∧ (t.channel 5).chain = [7] := by
  decide

/-- R38, R11 and R20: a bind of a failed window is refused STATE; rewound, it is appended at the tail of the STALLED chain
(2, length 1 at 8), whose stall stands. -/
theorem test_bind_window_failed :
    let s := given (base (some (win .failed)) { chan .stalled [] with stall := some { window := 7, cause := .expired } }) 1 5
    let t := after (.bindWindow (acc 1) 7 0) (after (.rewindWindow (acc 1) 7 0) s)
    answer (after (.bindWindow (acc 1) 7 0) s) 1 = (.state, 0, 0, 0, 0) ∧ answer t 1 = (.done, 0x102, 0, 0, 0) ∧
      (t.channel 5).stall = (s.channel 5).stall ∧ (t.channel 5).state = .stalled := by
  decide

theorem test_revoke_window :
    let t := after (.revokeWindow (acc 1) 7 0) (queued .armed)
    answer t 1 = (.done, 0x201, 0, 0, 0) ∧ stateOf t 7 = some .parked ∧ (t.channel 5).state = .idle := by
  decide

/-- R90: with its unit in flight the window drains and the command waits. -/
theorem test_revoke_window_drains :
    let t := after (.revokeWindow (acc 1) 7 0) (flying .active [7] .busCycle)
    (t.port 1).busy = true ∧ stateOf t 7 = some .draining ∧ (t.channel 5).chain = [] := by
  decide

theorem test_rewind_window :
    let t := after (.rewindWindow (acc 1) 7 0) (alone .spent)
    ((t.window 7).map fun w => (w.state, w.remaining, w.address, w.lease)) = some (.parked, 2, 0x00210000, 1) := by
  decide

/-- R22: a pending window given level NONE loses its causes. -/
theorem test_amend_window :
    let t := after (.amendWindow (acc 1) 7 0) (given (notified (alone .spent) 1) 1 0x00080FFF 0x77)
    ((t.window 7).map fun w => (w.level, w.lease, w.tag)) = some (none, 4095, 0x77) ∧ t.pendingCauses 7 = 0 ∧
      (t.notice 1).lists[(3 : Level)] = [] := by
  decide

/-- The lease word: ACTIVE (3) and lease 5 at bit 8. -/
theorem test_touch_window :
    answer (after (.touchWindow (acc 1) 7 0) (queued .armed)) 1 = (.done, 0x503, 0, 0, 0) := by
  decide

/-- The identity word: count 2, size 4 (80000H), PARKED at 25, owner 1 at 28; the notify word: lease limit 5, level 3, both
flags. -/
theorem test_read_window_part0 :
    answer (after (.readWindow (acc 0) 7 0) (alone .parked)) 0 = (.done, 0x00210000, 0x12080002, 0x00330005, 0xBEEF) := by
  decide

/-- The count word: remaining 2, lease 1 at bit 20; the link word: channel 5 at 16, present at 20. -/
theorem test_read_window_part1 :
    answer (after (.readWindow (acc 1) 7 0) (given (queued .armed) 1 1)) 1 =
      (.done, 0x00210000, 0x00100002, 0x00150000, 0) := by
  decide

/-! ## Channel commands -/

theorem test_enable_channel :
    let t := after (.enableChannel (acc 1) 5 0) (queued .off)
    answer t 1 = (.done, 0, 0, 0, 0) ∧ (t.channel 5).state = .armed := by
  decide

/-- R42: a disable of a MOVING channel waits. -/
theorem test_disable_channel :
    let t := after (.disableChannel (acc 1) 5 0) (flying .active [7] .busWait)
    (t.port 1).busy = true ∧ (t.channel 5).disablePending = true ∧ (t.channel 5).state = .moving := by
  decide

theorem test_mask_channel :
    let t := after (.maskChannel (acc 1) 5 0) (paused (queued .pending))
    (t.channel 5).state = .armed ∧ (t.channel 5).masked = true := by
  decide

/-- R43, R54: the unmask makes the channel PENDING, and with the port free it is granted. -/
theorem test_unmask_channel :
    let t := after (.unmaskChannel (acc 1) 5 0)
      ((queued .armed).updChannel 5 fun ch => { ch with masked := true, line := true })
    (t.channel 5).state = .moving ∧ t.arbiter.holder = some 5 ∧ t.ak 5 = true := by
  decide

/-- The bring-up sequence: 00100011H gives DEMAND, class 1, burst limit 16. -/
theorem test_set_channel :
    let t := after (.setChannel (acc 1) 5 0) (given (alone .parked) 1 0x00100011)
    ((t.channel 5).mode, (t.channel 5).cls, (t.channel 5).burstLimit) = (.demand, 1, 16) := by
  decide

theorem test_cut_chain :
    let t := after (.cutChain (acc 1) 5 0) (queued .armed)
    answer t 1 = (.done, 1, 0, 0, 0) ∧ (t.channel 5).state = .idle ∧ stateOf t 7 = some .parked := by
  decide

/-- R47 on a channel whose chain is empty behind the failed window. -/
theorem test_resume_channel :
    let t := after (.resumeChannel (acc 1) 5 0)
      (base (some (win .failed)) { chan .stalled [] with stall := some { window := 7, cause := .busError } })
    (t.channel 5).state = .idle ∧ (t.channel 5).stall = none := by
  decide

theorem test_pulse_channel :
    let t := after (.pulseChannel (acc 1) 5 0) (paused (queued .armed))
    (t.channel 5).state = .pending ∧ (t.channel 5).soft = true := by
  decide

/-- The channel word: owner 1 present, ARMED (2 at 3), BLOCK (2 at 6), class 2 at 8, burst limit 8 at 10; the summary:
head 7, tail 7 at 8, both present, length 1 at 16. -/
theorem test_read_channel :
    answer (after (.readChannel (acc 0) 5 0) (queued .armed)) 0 = (.done, 0x2295, 0x00014747, 0, 0) := by
  decide

/-! ## Notice commands -/

/-- A retire word built as in the ring sequence: LAP at 17, level 3 at 22, handle 7 at 25. -/
theorem test_retire_notice :
    let t := after (.retireNotice (acc 1) 7 0) (serving (alone .spent) 3 7 2)
    answer t 1 = (.done, 0x0EC20000, 0, 0, 0) ∧ t.inService 7 = false := by
  decide

/-- The ring sequence: BUS-ERROR of window 31 at level 1 is 3E480000H. -/
theorem test_retire_top :
    answer (after (.retireTop (acc 1) 0 0) (serving (serving (alone .spent) 4 30 2) 1 31 8)) 1 =
      (.done, 0x3E480000, 0, 0, 0) := by
  decide

/-- FLAT, auto-retire, every level but 3 masked: NOTE1 stays asserted for the pending window of level 3. -/
theorem test_set_notices :
    answer (after (.setNotices (acc 1) 0 0) (given (notified (alone .spent) 1) 1 0x11F7)) 1 =
      (.done, 0x111F7, 0, 0, 0) := by
  decide

/-- The notice word: valid, handle 7 at 25, level 3 at 22, SPENT at 16, tag BEEFH. -/
theorem test_acknowledge :
    let t := after (.acknowledge (acc 1)) (notified (alone .spent) 1)
    t.readData = 0x8EC1BEEF ∧ t.inService 7 = true ∧ t.note 1 = false := by
  decide

/-! ## Supervisor commands -/

/-- The bring-up sequence: OPEN DOMAIN 1 with quota 8 gives 00000801H. -/
theorem test_open_domain :
    answer (after (.openDomain (acc 0) 1 0) (given State.reset 0 8)) 0 = (.done, 0x801, 0, 0, 0) := by
  decide

/-- R152: with nothing in flight the close completes at once; one window freed, channel 5 named. -/
theorem test_close_domain :
    let t := after (.closeDomain (acc 0) 1 0) (queued .armed)
    answer t 0 = (.done, 1, 0x20, 0, 0) ∧ (t.domain 1).state = .closed ∧ t.window 7 = none ∧
      (t.channel 5).owner = none := by
  decide

/-- R153: with its unit in flight the domain is CLOSING and the close waits. -/
theorem test_close_domain_waits :
    let t := after (.closeDomain (acc 0) 1 0) (flying .active [7] .busCycle)
    (t.port 0).busy = true ∧ (t.domain 1).state = .closing ∧ stateOf t 7 = some .draining := by
  decide

theorem test_set_quota :
    answer (after (.setQuota (acc 0) 1 0) (given (alone .parked) 0 1)) 0 = (.done, 0x10100, 0, 0, 0) ∧
      answer (after (.setQuota (acc 0) 1 0) (given (alone .parked) 0 0)) 0 = (.quota, 0, 0, 0, 0) := by
  decide

/-- The bring-up sequence: READ and WRITE on pages 200H to 2FFH. -/
theorem test_set_range :
    answer (after (.setRange (acc 0) 1 0) (given (base none (chan .off [])) 0 0x300 0x200 0x2FF)) 0 =
      (.done, 0x300, 0x200, 0x2FF, 0) := by
  decide

theorem test_clear_range :
    answer (after (.clearRange (acc 0) 1 0) (alone .parked)) 0 = (.inUse, 0, 0, 0, 0) ∧
      ((after (.clearRange (acc 0) 1 0) (base none (chan .off []))).domain 1).slots[(0 : SlotId)] = none := by
  decide

theorem test_assign_channel :
    ((after (.assignChannel (acc 0) 4 0) (given (alone .parked) 0 1)).channel 4).owner = some 1 ∧
      answer (after (.assignChannel (acc 0) 5 0) (given (alone .parked) 0 1)) 0 = (.inUse, 0, 0, 0, 0) := by
  decide

theorem test_unassign_channel :
    let t := after (.unassignChannel (acc 0) 5 0) (alone .parked)
    answer t 0 = (.done, 1, 0, 0, 0) ∧ t.channel 5 = Channel.reset := by
  decide

/-- ROTATE for class 1 alone: policy 1 in bits 3:2, read back at bit 18; the pointers stand at 11. -/
theorem test_set_arbiter :
    answer (after (.setArbiter (acc 0) 0 0) (given State.reset 0 4)) 0 = (.done, 0x40000, 0x0B0B0B0B, 0, 0) := by
  decide

theorem test_pause_arbiter :
    answer (after (.pauseArbiter (acc 0) 0 0) State.reset) 0 = (.done, 1, 0x0B0B0B0B, 0, 0) := by
  decide

/-- R62: the run grants the PENDING channel 5, and the arbiter word shows it as the holder. -/
theorem test_run_arbiter :
    answer (after (.runArbiter (acc 0) 0 0) (paused (queued .pending))) 0 = (.done, 0x1500, 0x0B0B0B0B, 0, 0) := by
  decide

/-- The bring-up sequence: exponent 12 and unit limit 4. -/
theorem test_set_clock :
    answer (after (.setClock (acc 0) 0 0) (given State.reset 0 0x40C)) 0 = (.done, 0x40C, 0, 0, 0) := by
  decide

/-- The domain word: OPEN, quota 4 at 4, held 1 at 12, channel 5 at 25; slot 0 present with both rights and one home. -/
theorem test_read_domain :
    answer (after (.readDomain (acc 1) 1 0) (alone .parked)) 1 = (.done, 0x02001040, 0x01700000, 0x200, 0x2FF) := by
  decide

theorem test_master_clear :
    let t := after (.masterClear (acc 0) 0 0) (paused (queued .armed))
    answer t 0 = (.done, 1, 0x20, 0, 0) ∧ (t.domain 1).state = .closed ∧ t.arbiter.run = .run := by
  decide

/-! ## The host port -/

/-- Code 4CH is refused UNKNOWN, and the COMMAND register reads the whole word back. -/
theorem test_unknown_command :
    let t := after (.unknownCommand (acc 0) 0xABCD124C) State.reset
    answer t 0 = (.unknown, 0, 0, 0, 0) ∧ t.readRegister 0 0 = 0xABCD124C := by
  decide

/-- The revoke sequence: a TOUCH WINDOW written to a busy aperture is discarded with OVERRUN. -/
theorem test_discarded_write :
    let s := (flying .draining [] .busCycle).updPort 1 fun p => { p with waiting := some (.revoke 7) }
    ((after (.discardedWrite (acc 1) 0x2D16) s).port 1) = { s.port 1 with overrun := true } := by
  decide

theorem test_register_write :
    ((after (.registerWrite (acc 3) 4 0x12345678) State.reset).port 3).params = #v[0, 0, 0, 0x12345678] ∧
      after (.registerWrite (acc 3) 5 0x12345678) State.reset = State.reset := by
  decide

/-- BUSY, OVERRUN and NOTE at bits 0 to 2, CLOSED at 5:4; the read clears OVERRUN. -/
theorem test_status_read :
    let t := after (.statusRead (acc 2)) (State.reset.updPort 2 fun p => { p with overrun := true })
    t.readData = 0x22 ∧ (t.port 2).overrun = false := by
  decide

/-! ## Events -/

theorem test_request_assertion :
    let t := after (.requestAssertion 5) (queued .armed)
    (t.channel 5).state = .moving ∧ (t.channel 5).line = true ∧ t.mbreq = true := by
  decide

theorem test_request_withdrawal :
    ((after (.requestWithdrawal 5) (paused (queued .pending))).channel 5).state = .armed := by
  decide

theorem test_mbgnt :
    let t := after .mbgnt (flying .active [7] .busWait)
    t.ma = some 0x00210000 ∧ t.mbe = some 15 ∧ t.mwr = some true := by
  decide

/-- R77: remaining 1, the next address, the lease renewed; BLOCK goes on with LAST. -/
theorem test_mdone :
    let t := after .mdone (flying .active [7] .busCycle)
    ((t.window 7).map fun w => (w.remaining, w.address, w.lease)) = some (1, 0x00210004, 5) ∧
      (t.channel 5).burst = 1 ∧ t.lastLine = true := by
  decide

theorem test_merr :
    let t := after .merr (flying .active [7] .busCycle)
    stateOf t 7 = some .failed ∧ (t.channel 5).state = .stalled ∧ t.pendingCauses 7 = 8 ∧ t.arbiter.holder = none := by
  decide

/-- R73: the end of the strobe counts the unit. -/
theorem test_strobe_end :
    (after .strobeEnd (flying .active [7] .strobe)).window 7 =
      some { win .active with remaining := 1, address := 0x00210004, lease := 5 } := by
  decide

/-- R107, R109: lease 1 runs out at the tick. -/
theorem test_lease_tick :
    let t := after .leaseTick (clocked (queued .armed))
    stateOf t 7 = some .failed ∧ (t.channel 5).stall = some { window := 7, cause := .expired } ∧ t.note 1 = true := by
  decide

/-- A unit whose age is 0 with unit limit 2 ages to 1 and goes on. -/
theorem test_lease_tick_ages :
    ((after .leaseTick (clocked (flying .active [7] .busCycle))).memory.record.map fun u => u.age) = some 1 := by
  decide

theorem test_lease_expiry :
    stateOf (after (.leaseExpiry 7) (clocked (queued .armed))) 7 = some .failed := by
  decide

/-- R83: a timeout in BUS-CYCLE sets the stale cycle flag. -/
theorem test_unit_timeout :
    let t := after .unitTimeout
      { flying .active [7] .busCycle with clock := { exponent := 8, unitLimit := 1, divider := 0 } }
    stateOf t 7 = some .failed ∧ t.memory.stale = true ∧ t.pendingCauses 7 = 16 := by
  decide

theorem test_hardware_reset :
    let t := after .hardwareReset (flying .active [7] .busCycle)
    t.window 7 = none ∧ (t.domain 1).state = .closed ∧ t.ak 5 = false ∧ t.resetAsserted = true := by
  decide

/-- R50: the level standing on RQ5 is recorded when RESETN is withdrawn. -/
theorem test_reset_release :
    ((after .resetRelease { State.reset with resetAsserted := true, rq := State.reset.rq.set 5 true }).channel 5).line =
      true := by
  decide

/-! ## Witnesses: a state and operands that meet the hypotheses of each statement -/

/-- A setting of two units of 4 bytes at 002FFFF8H, the last that page 2FFH holds. -/
def lastSetting : Setting where
  base := 0x002FFFF8
  size := .four
  step := .up
  direction := .inbound
  count := 2
  reload := false
  notify := { leaseLimit := 5, level := some 3, onSpent := false, onLap := false, tag := 1 }

/-- Aperture 1 about to open a window with that setting, or at another base or count. -/
def opening (address setting : Word) (s : State) : State := given s 1 address setting 0x00030005 1

/-- Domain 1 and channel 5 with no window. -/
def empty : State := base none (chan .off [])

theorem witness_QueueFront : ({ State.reset with pending := [.mdone, .merr] } : State).pending = .mdone :: [.merr] := rfl

/-- Each clause of IdlePeriod: exponent 0; the divider short of 256 by two; the divider at its last count. -/
theorem witness_IdlePeriod :
    (State.reset.pending = [] ∧ State.reset.clock.exponent = 0) ∧
    (let s : State := { State.reset with clock := { exponent := 8, unitLimit := 0, divider := 254 } };
      s.pending = [] ∧ s.resetAsserted = false ∧ s.clock.exponent ≠ 0 ∧ s.clock.divider + 1 < 2 ^ s.clock.exponent) ∧
    (let s : State := { State.reset with clock := { exponent := 8, unitLimit := 0, divider := 255 } };
      s.pending = [] ∧ s.resetAsserted = false ∧ s.clock.exponent ≠ 0 ∧ 2 ^ s.clock.exponent ≤ s.clock.divider + 1) := by
  decide

theorem witness_ResetLine_NoEventInReset :
    State.reset.resetAsserted = false ∧ (after .hardwareReset State.reset).resetAsserted = true ∧
      (after .hardwareReset State.reset).pending = [] ∧
      Instr.mdone ≠ .hardwareReset ∧ Instr.mdone ≠ .resetRelease ∧
      ∀ c : ChannelId, Instr.mdone ≠ .requestAssertion c ∧ Instr.mdone ≠ .requestWithdrawal c := by
  decide

theorem home_lastSetting : HomeIs (opening 0x002FFFF8 0x00080002 empty) 1 lastSetting 0 :=
  ⟨⟨{ first := 0x200, last := 0x2FF, read := true, write := true, homes := 0 }, by decide, by
    unfold SlotQualifies; decide⟩, fun j hj => absurd hj (Nat.not_lt_zero _)⟩

theorem witness_OpenWindow :
    let s := opening 0x002FFFF8 0x00080002 empty
    Admits s (acc 1) 1 ∧ SettingGiven (s.port 1).params lastSetting ∧ lastSetting.inSpace = true ∧
      lastSetting.aligned = true ∧ HomeIs s 1 lastSetting 0 ∧ (s.domain 1).held < (s.domain 1).quota ∧
      LowestFree s 0 ∧ NoticesAgree s :=
  ⟨by decide, by unfold SettingGiven NotifyGiven; decide, by decide, by decide, home_lastSetting, by decide,
    ⟨by decide, fun x hx => absurd hx (Nat.not_lt_zero _)⟩, by decide⟩

/-- One word for each clause: unit sizes 0, 3 and 7, a step and a direction of 3, counts of 0 and 65537, a level code of 9, a
lease limit of 4096. -/
theorem witness_OpenWindowRefused_bad_value :
    ∀ x ∈ [(0x00000001, 0), (0x00060001, 0), (0x000E0001, 0), (0x00380001, 0), (0x00C80001, 0), (0x00080000, 0),
        (0x00090001, 0), (0x00080001, 0x00090000), (0x00080001, 0x00001000)],
      Admits (given empty 1 0 x.1 x.2) (acc 1) 1 ∧ SettingBad ((given empty 1 0 x.1 x.2).port 1).params := by
  intro x hx
  simp only [List.mem_cons, List.not_mem_nil, or_false] at hx
  unfold SettingBad NotifyBad
  rcases hx with rfl | rfl | rfl | rfl | rfl | rfl | rfl | rfl | rfl <;> decide

/-- An extent past FFFFFFFFH; an odd base; an extent one unit past the range; held at the quota; no handle free. -/
theorem witness_OpenWindowRefused :
    (SettingGiven ((opening 0xFFFFFFFC 0x00080002 empty).port 1).params { lastSetting with base := 0xFFFFFFFC } ∧
      ({ lastSetting with base := 0xFFFFFFFC } : Setting).inSpace = false) ∧
    (SettingGiven ((opening 0x00200001 0x00080002 empty).port 1).params { lastSetting with base := 0x00200001 } ∧
      ({ lastSetting with base := 0x00200001 } : Setting).inSpace = true ∧
      ({ lastSetting with base := 0x00200001 } : Setting).aligned = false) ∧
    (SettingGiven ((opening 0x002FFFFC 0x00080002 empty).port 1).params { lastSetting with base := 0x002FFFFC } ∧
      ({ lastSetting with base := 0x002FFFFC } : Setting).inSpace = true ∧
      ({ lastSetting with base := 0x002FFFFC } : Setting).aligned = true ∧
      ∀ (i : SlotId) (r : RangeSlot),
        ((opening 0x002FFFFC 0x00080002 empty).domain 1).slots[i] = some r →
          ¬ SlotQualifies r { lastSetting with base := 0x002FFFFC }) ∧
    (HomeIs (opening 0x002FFFF8 0x00080002 (empty.updDomain 1 fun x => { x with quota := 0 })) 1 lastSetting 0 ∧
      ((opening 0x002FFFF8 0x00080002 (empty.updDomain 1 fun x => { x with quota := 0 })).domain 1).quota ≤
        ((opening 0x002FFFF8 0x00080002 (empty.updDomain 1 fun x => { x with quota := 0 })).domain 1).held) ∧
    (let s := { opening 0x002FFFF8 0x00080002 empty with windows := Vector.replicate 64 (some (win .parked)) };
      Admits s (acc 1) 1 ∧ (s.domain 1).held < (s.domain 1).quota ∧ ∀ h : Handle, s.window h ≠ none) := by
  refine ⟨⟨?_, by decide⟩, ⟨?_, by decide, by decide⟩, ⟨?_, by decide, by decide, homeFor_eq_none.mp (by decide)⟩,
    ⟨homeFor_eq_some.mp (by decide), by decide⟩, ⟨by decide, by decide, by decide⟩⟩ <;>
  · unfold SettingGiven NotifyGiven
    decide

theorem witness_ReleaseWindow_RewindAndTouch :
    ∀ st ∈ [WindowState.parked, .spent, .failed],
      Admits (alone st) (acc 1) 1 ∧ (7#8).toNat = (7 : Handle).val ∧ (alone st).window 7 = some (win st) ∧
        (win st).owner = 1 ∧ ((win st).state = .parked ∨ (win st).state = .spent ∨ (win st).state = .failed) ∧
        (alone st).inService 7 = false := by
  decide

/-- An empty OFF chain (ACTIVE at once), and a chain with a head (LINKED). -/
theorem witness_BindWindow :
    (let s := given (alone .parked) 1 5;
      Admits s (acc 1) 1 ∧ s.window 7 = some (win .parked) ∧ bits (s.port 1).params[0] 0 8 = (5 : ChannelId).val ∧
        (s.channel 5).owner = some 1 ∧ ChainsAgree s ∧
        ((true = true) ↔ (s.channel 5).chain = [] ∧ (s.channel 5).state ≠ .stalled ∧ (s.channel 5).state ≠ .moving)) ∧
    (let s := given { queued .armed with windows := (queued .armed).windows.set 63 (some (win .parked)) } 1 5;
      Admits s (acc 1) 1 ∧ s.window 63 = some (win .parked) ∧ (s.channel 5).owner = some 1 ∧ ChainsAgree s ∧
        ((false = true) ↔ (s.channel 5).chain = [] ∧ (s.channel 5).state ≠ .stalled ∧ (s.channel 5).state ≠ .moving)) :=
  ⟨⟨by decide, by decide, by decide, by decide, by decide, by decide⟩,
    ⟨by decide, by decide, by decide, by decide, by decide⟩⟩

/-- The owner's revoke of a LINKED window, domain 0's of a window in flight, and of an ACTIVE head of a waiting channel. -/
theorem witness_RevokeLeavesChain_RevokeActiveHead :
    (let s := base (some (win .linked)) (chan .stalled [7]);
      Admits s (acc 1) 1 ∧ s.window 7 = some (win .linked) ∧ (win .linked).owner = 1 ∧
        (win .linked).channel = some 5) ∧
    (let s := flying .active [7] .busCycle;
      Admits s (acc 0) 0 ∧ s.window 7 = some (win .active) ∧ (win .active).channel = some 5 ∧
        s.inFlight 7 = true) ∧
    ∀ st ∈ [ChannelState.off, .armed, .pending],
      Admits (queued st) (acc 1) 1 ∧ (queued st).window 7 = some (win .active) ∧ (queued st).inFlight 7 = false ∧
        ((queued st).channel 5).state = st ∧
        ([] : List Handle) = ((queued st).channel 5).chain.filter fun x => x != 7 := by
  decide

/-- The level kept; level 3 changed to 7 while a cause is pending; changed to NONE. -/
theorem witness_AmendWindow :
    (let s := given (serving (notified (alone .spent) 1) 3 7 2) 1 0x00030FFF 0x77;
      Admits s (acc 1) 1 ∧
        NotifyGiven (s.port 1).params[0] (s.port 1).params[1]
          { leaseLimit := 4095, level := some 3, onSpent := false, onLap := false, tag := 0x77 }) ∧
    (let s := given (notified (alone .spent) 1) 1 0x00070000 0x77;
      NotifyGiven (s.port 1).params[0] (s.port 1).params[1]
          { leaseLimit := 0, level := some 7, onSpent := false, onLap := false, tag := 0x77 } ∧
        s.window 7 = some (win .spent) ∧ (win .spent).level = some 3 ∧ s.pendingCauses 7 ≠ 0 ∧ s.inService 7 = false) ∧
    (let s := given (notified (alone .spent) 1) 1 0x00080000 0x77;
      NotifyGiven (s.port 1).params[0] (s.port 1).params[1]
          { leaseLimit := 0, level := none, onSpent := false, onLap := false, tag := 0x77 } ∧
        s.pendingCauses 7 ≠ 0) := by
  unfold NotifyGiven
  decide

/-- READ WINDOW parts 0 and 1, READ DOMAIN of domain 3 by domain 0 and of itself by domain 1, READ CHANNEL. -/
theorem witness_ReadCommands :
    (Admits (alone .parked) (acc 0) 0 ∧ (alone .parked).window 7 = some (win .parked) ∧
      bits ((alone .parked).port 0).params[0] 0 8 = 0) ∧
    (let s := given (alone .parked) 1 1;
      Admits s (acc 1) 1 ∧ bits (s.port 1).params[0] 0 8 = 1) ∧
    (let s := given (alone .parked) 0 3;
      Admits s (acc 0) 0 ∧ (3#8).toNat = (3 : DomainId).val ∧ bits (s.port 0).params[0] 0 8 = (3 : SlotId).val ∧
        ∀ c : ChannelId, (0#12).getLsbD c.val = decide ((s.channel c).owner = some 3)) ∧
    ((alone .parked).channel 5).owner = some 1 ∧ (11#8).toNat = (11 : ChannelId).val := by
  decide

/-- A FREE handle and a handle of 64; channel 12; another owner; each state a window command refuses; a notice in service;
level code 9 and a lease limit of 4096. -/
theorem witness_WindowRefusals_RewindAndTouch_RetireNotices :
    (Admits (alone .parked) (acc 1) 1 ∧ (∀ h : Handle, (8#8).toNat = h.val → (alone .parked).window h = none) ∧
      (∀ h : Handle, (64#8).toNat = h.val → (alone .parked).window h = none) ∧
      ∀ l : Level, ((alone .parked).notice 1).service[l] = none) ∧
    (let s := given (alone .parked) 1 12;
      Admits s (acc 1) 1 ∧ 12 ≤ bits (s.port 1).params[0] 0 8) ∧
    (let s := { alone .parked with domains := #v[Domain.supervisor, dom 1, dom 0, Domain.closed] };
      Admits s (acc 2) 2 ∧ s.window 7 = some (win .parked) ∧ (win .parked).owner ≠ 2) ∧
    (let s := given (alone .parked) 1 11;
      Admits s (acc 1) 1 ∧ s.window 7 = some (win .parked) ∧ bits (s.port 1).params[0] 0 8 = (11 : ChannelId).val ∧
        (s.channel 11).owner ≠ some 1) ∧
    (let s := given (alone .spent) 1 5;
      Admits s (acc 1) 1 ∧ s.window 7 = some (win .spent) ∧ bits (s.port 1).params[0] 0 8 = (5 : ChannelId).val ∧
        (s.channel 5).owner = some 1 ∧ (win .spent).state ≠ .parked) ∧
    (let s := flying .draining [] .busCycle;
      Admits s (acc 1) 1 ∧ s.window 7 = some (win .draining) ∧ (win .draining).state = .draining) ∧
    (let s := given (alone .parked) 1 2;
      Admits s (acc 1) 1 ∧ s.window 7 = some (win .parked) ∧ 2 ≤ bits (s.port 1).params[0] 0 8) ∧
    (let s := given (serving (alone .spent) 3 7 1) 1 0x80000;
      Admits s (acc 1) 1 ∧ s.window 7 = some (win .spent) ∧ s.inService 7 = true ∧
        NotifyGiven (s.port 1).params[0] (s.port 1).params[1]
          { leaseLimit := 0, level := none, onSpent := false, onLap := false, tag := 0 } ∧
        (win .spent).level ≠ none) ∧
    (∀ v ∈ [0x90000, 0x1000],
      Admits (given (alone .parked) 1 v) (acc 1) 1 ∧ NotifyBad ((given (alone .parked) 1 v).port 1).params[0]) := by
  unfold NotifyGiven NotifyBad
  refine ⟨?_, ?_, ?_, ?_, ?_, ?_, ?_, ?_, fun v hv => ?_⟩
  case refine_9 =>
    simp only [List.mem_cons, List.not_mem_nil, or_false] at hv
    rcases hv with rfl | rfl <;> decide
  all_goals decide

/-- Channel 5 ARMED and masked, with its line asserted. -/
def masked : State := (queued .armed).updChannel 5 fun ch => { ch with masked := true, line := true }

theorem sound_armed : ∀ c : ChannelId, ChannelSound (queued .armed) c := by decide

theorem sound_pending : ∀ c : ChannelId, ChannelSound (queued .pending) c := by decide

theorem sound_masked : ∀ c : ChannelId, ChannelSound masked c := by decide

/-- Each channel state that a channel command takes, on its owner's channel; BLOCK, class 3 and burst limit 256 given. -/
theorem witness_channel_commands :
    (∀ st ∈ [ChannelState.off, .idle, .armed, .pending, .stalled, .moving],
      Admits (queued st) (acc 1) 1 ∧ (5#8).toNat = (5 : ChannelId).val ∧ ((queued st).channel 5).owner = some 1 ∧
        ((queued st).channel 5).state = st) ∧
    ChannelSound (queued .armed) 5 ∧ ChannelSound (queued .pending) 5 ∧
    (Admits masked (acc 1) 1 ∧ (masked.channel 5).owner = some 1 ∧ ChannelSound masked 5) ∧
    (let s := given (queued .off) 1 0x01000032;
      Admits s (acc 1) 1 ∧ (s.channel 5).owner = some 1 ∧ (s.channel 5).state = .off ∧
        bits (s.port 1).params[0] 0 2 ≠ 3 ∧ bits (s.port 1).params[0] 4 3 = (3 : ClassId).val ∧
        1 ≤ bits (s.port 1).params[0] 16 9 ∧ bits (s.port 1).params[0] 16 9 ≤ 256) ∧
    (((queued .armed).channel 5).masked = false ∧ NoGrantDue (queued .armed)) :=
  ⟨by decide, sound_armed 5, sound_pending 5, ⟨by decide, by decide, sound_masked 5⟩, by decide, by decide⟩

/-- CutChain's two endings: no unit in flight, and the ACTIVE head's. -/
theorem witness_CutChain :
    (Admits (queued .armed) (acc 1) 1 ∧ ChainsAgree (queued .armed) ∧
      ∀ (h : Handle) (w : Window), ((queued .armed).channel 5).chain.head? = some h →
        (queued .armed).window h = some w → ¬ (w.state = .active ∧ (queued .armed).inFlight h = true)) ∧
    (let s := flying .active [7] .busCycle;
      Admits s (acc 1) 1 ∧ ChainsAgree s ∧ (s.channel 5).chain.head? = some 7 ∧ s.window 7 = some (win .active) ∧
        s.inFlight 7 = true) :=
  ⟨⟨by decide, by decide, fun h w _ _ hh => absurd hh.2 (by
      have : ∀ x : Handle, (queued .armed).inFlight x = false := by decide
      simp [this])⟩,
    ⟨by decide, by decide, by decide, by decide, by decide⟩⟩

/-- Channel 12; a channel of no owner; a mode code 3, a class 4, burst limits 0 and 257; each state that refuses. -/
theorem witness_ChannelRefusals_SetChannel_PulseChannel :
    (Admits (alone .parked) (acc 1) 1 ∧ 12 ≤ (12#8).toNat ∧ ((alone .parked).channel 11).owner ≠ some 1) ∧
    (Admits (given (queued .off) 1 0x00010003) (acc 1) 1 ∧ bits 0x00010003 0 2 = 3) ∧
    (Admits (given (queued .off) 1 0x00010040) (acc 1) 1 ∧ 4 ≤ bits 0x00010040 4 3) ∧
    (Admits (given (queued .off) 1 0x01010000) (acc 1) 1 ∧ 256 < bits 0x01010000 16 9) ∧
    (let s := given (queued .off) 1 0;
      Admits s (acc 1) 1 ∧ (s.channel 5).owner = some 1 ∧ bits (s.port 1).params[0] 16 9 = 0 ∧
        (s.channel 5).state = .off ∧ (s.channel 5).state ≠ .stalled ∧ (s.channel 5).state ≠ .armed ∧
        (s.channel 5).state ≠ .pending) ∧
    (let s := given (queued .armed) 1 0x10000;
      Admits s (acc 1) 1 ∧ (s.channel 5).owner = some 1 ∧ 1 ≤ bits (s.port 1).params[0] 16 9 ∧
        (s.channel 5).state ≠ .off) := by
  refine ⟨?_, ?_, ?_, ?_, ?_, ?_⟩ <;> decide

theorem witness_RetireNotices :
    let s := serving (alone .spent) 3 7 2
    Admits s (acc 1) 1 ∧ (s.notice 1).service[(3 : Level)] = some { window := 7, causes := 2 } ∧
      (7#8).toNat = (7 : Handle).val ∧ NoticesAgree s ∧
      ∀ k : Level, k < 3 → (s.notice 1).service[k] = none :=
  ⟨by decide, by decide, by decide, by decide, by decide⟩

/-- FLAT, the last accepted mode code, and code 2. -/
theorem witness_SetNotices :
    (let s := given (alone .spent) 1 0x11FF;
      Admits s (acc 1) 1 ∧ bits (s.port 1).params[0] 8 2 ≤ 1) ∧
    (let s := given (alone .spent) 1 0x200;
      Admits s (acc 1) 1 ∧ 2 ≤ bits (s.port 1).params[0] 8 2) := by
  decide

/-- Nothing eligible; and window 7 the head of level 3, held back by nothing. -/
theorem witness_Acknowledge :
    (Reaches (alone .spent) (acc 1) 1 ∧ (alone .spent).note 1 = false) ∧
    (let s := notified (alone .spent) 1;
      Reaches s (acc 1) 1 ∧ LevelOpen (s.notice 1) 3 ∧ (s.notice 1).lists[(3 : Level)] = 7 :: [] ∧
        (∀ k : Level, k < 3 → ¬ LevelOpen (s.notice 1) k ∨ (s.notice 1).lists[k] = []) ∧
        s.window 7 = some (win .spent)) := by
  decide

theorem witness_RaiseJoinsList :
    (alone .spent).window 7 = some (win .spent) ∧ (win .spent).level = some 3 ∧ (alone .spent).pendingCauses 7 = 0 ∧
      (notified (alone .spent) 1).pendingCauses 7 ≠ 0 := by
  decide

/-- The quota 64 for a CLOSED domain, and the held count itself for an OPEN one. -/
theorem witness_DomainsAndQuotas :
    (let s := given State.reset 0 64;
      Admits s (acc 0) 0 ∧ (3#8).toNat = (3 : DomainId).val ∧ 64 = bits (s.port 0).params[0] 0 8 ∧
        (s.domain 3).state = .closed) ∧
    (let s := given (alone .parked) 0 1;
      Admits s (acc 0) 0 ∧ 1 = bits (s.port 0).params[0] 0 8 ∧ (s.domain 1).state = .opened ∧
        (s.domain 1).held ≤ 1) := by
  decide

/-- Slot 3, absent, given the page FFFFFH alone. -/
theorem witness_Ranges :
    let s := given (alone .parked) 0 0x303 0xFFFFF 0xFFFFF
    Admits s (acc 0) 0 ∧ bits (s.port 0).params[0] 0 8 = (3 : SlotId).val ∧ (s.domain 1).state = .opened ∧
      (∀ r : RangeSlot, (s.domain 1).slots[(3 : SlotId)] = some r → r.homes = 0) ∧
      ((s.port 0).params[1]).toNat ≤ ((s.port 0).params[2]).toNat ∧ ((s.port 0).params[2]).toNat ≤ 0xFFFFF := by
  refine ⟨by decide, by decide, by decide, ?_, by decide, by decide⟩
  intro r hr
  exact absurd hr (by
    have : ((given (alone .parked) 0 0x303 0xFFFFF 0xFFFFF).domain 1).slots[(3 : SlotId)] = none := by decide
    rw [this]
    exact nofun)

theorem witness_ChannelOwnership :
    (let s := given (alone .parked) 0 1;
      Admits s (acc 0) 0 ∧ (11#8).toNat = (11 : ChannelId).val ∧ bits (s.port 0).params[0] 0 8 = (1 : DomainId).val ∧
        (s.domain 1).state = .opened ∧ (s.channel 11).owner = none ∧ (s.channel 5).owner = some 1 ∧
        (s.channel 5).state = .off ∧ (s.channel 5).chain = []) := by
  decide

theorem structure_queued : StructureSound (queued .armed) :=
  ⟨by decide, by decide, by decide, by decide, by decide, by decide, by decide, by decide, by decide, by decide⟩

theorem structure_flying : StructureSound (flying .active [7] .busCycle) :=
  ⟨by decide, by decide, by decide, by decide, by decide, by decide, by decide, by decide, by decide, by decide⟩

theorem structure_closing : StructureSound closing :=
  ⟨by decide, by decide, by decide, by decide, by decide, by decide, by decide, by decide, by decide, by decide⟩

theorem structure_clearing : StructureSound clearing :=
  ⟨by decide, by decide, by decide, by decide, by decide, by decide, by decide, by decide, by decide, by decide⟩

/-- Both endings: no channel MOVING, and channel 5 MOVING; channel 5 alone is owned, and by domain 1. -/
theorem witness_CloseDomain_MasterClear :
    (Admits (queued .armed) (acc 0) 0 ∧ ((queued .armed).domain 1).state = .opened ∧
      StructureSound (queued .armed) ∧ CountsAgree (queued .armed) ∧
      ∀ c : ChannelId, ((queued .armed).channel c).state ≠ .moving) ∧
    (let s := flying .active [7] .busCycle;
      Admits s (acc 0) 0 ∧ (s.domain 1).state = .opened ∧ StructureSound s ∧ CountsAgree s ∧
        (s.channel 5).owner = some 1 ∧ (s.channel 5).state = .moving) ∧
    (∀ c : ChannelId, (32 : ChannelSet).getLsbD c.val = decide (((queued .armed).channel c).owner = some 1)) ∧
    (∀ c : ChannelId, (32 : ChannelSet).getLsbD c.val = decide (((queued .armed).channel c).owner ≠ none)) ∧
    ∀ d : DomainId, (d == 0 || d == 1) = true ↔ d = 0 ∨ ((queued .armed).domain d).state = .opened :=
  ⟨⟨by decide, by decide, structure_queued, by decide, by decide⟩,
    ⟨by decide, by decide, structure_flying, by decide, by decide, by decide⟩, by decide, by decide, by decide⟩

/-- A target of 4 and of 12; a slot of 4 from domain 0 and from domain 1; a policy code 2; exponents 7 and 25 and unit limit 16; quota 65; a quota below
held; pages out of order and above FFFFFH; a slot with a home; states and owners that refuse. -/
theorem witness_SupervisorRefusals_DomainsAndQuotas_Ranges :
    (Admits (alone .parked) (acc 0) 0 ∧ 4 ≤ (4#8).toNat ∧ 12 ≤ (12#8).toNat) ∧
    (let s := given (alone .parked) 0 4;
      Admits s (acc 0) 0 ∧ 4 ≤ bits (s.port 0).params[0] 0 8) ∧
    (let s := given (alone .parked) 1 4;
      Admits s (acc 1) 1 ∧ (1#8).toNat = (1 : DomainId).val ∧ 4 ≤ bits (s.port 1).params[0] 0 8) ∧
    (let s := given (alone .parked) 0 2;
      Admits s (acc 0) 0 ∧ ∃ k : ClassId, 2 ≤ bits (s.port 0).params[0] (2 * k.val) 2) ∧
    (∀ v ∈ [7, 25, 0x1008],
      Admits (given (alone .parked) 0 v) (acc 0) 0 ∧
        (¬ (bits ((given (alone .parked) 0 v).port 0).params[0] 0 8 = 0 ∨
            (8 ≤ bits ((given (alone .parked) 0 v).port 0).params[0] 0 8 ∧
              bits ((given (alone .parked) 0 v).port 0).params[0] 0 8 ≤ 24)) ∨
          15 < bits ((given (alone .parked) 0 v).port 0).params[0] 8 8)) ∧
    (let s := given (alone .parked) 0 65;
      Admits s (acc 0) 0 ∧ 64 < bits (s.port 0).params[0] 0 8) ∧
    (let s := given (alone .parked) 0 0 0x100000 2;
      Admits s (acc 0) 0 ∧ bits (s.port 0).params[0] 0 8 ≤ 64 ∧ (s.domain 1).state ≠ .closed ∧
        (s.domain 2).state ≠ .opened ∧ bits (s.port 0).params[0] 0 8 < (s.domain 1).held ∧
        bits (s.port 0).params[0] 0 8 = (0 : SlotId).val ∧ 0xFFFFF < ((s.port 0).params[1]).toNat ∧
        ((s.port 0).params[2]).toNat < ((s.port 0).params[1]).toNat) ∧
    (let s := given (alone .parked) 0 0 2 2;
      Admits s (acc 0) 0 ∧ ((s.port 0).params[1]).toNat ≤ ((s.port 0).params[2]).toNat ∧
        ((s.port 0).params[2]).toNat ≤ 0xFFFFF ∧ (s.domain 2).state ≠ .opened ∧ (s.domain 1).state = .opened ∧
        ((s.domain 1).slots[(0 : SlotId)]).map (fun r => r.homes) = some 1) ∧
    (let s := given (queued .armed) 0 1;
      Admits s (acc 0) 0 ∧ bits (s.port 0).params[0] 0 8 = (1 : DomainId).val ∧ (s.channel 5).owner ≠ none ∧
        (s.channel 4).owner = none ∧ (s.channel 5).state ≠ .off) ∧
    (let s := given (queued .off) 0 2;
      Admits s (acc 0) 0 ∧ bits (s.port 0).params[0] 0 8 = (2 : DomainId).val ∧ (s.domain 2).state ≠ .opened ∧
        (s.channel 5).owner ≠ none ∧ (s.channel 5).chain ≠ []) := by
  refine ⟨?_, ?_, ?_, ?_, ?_, ?_, ?_, ?_, ?_, ?_⟩
  · decide
  · decide
  · decide
  · decide
  · intro v hv
    simp only [List.mem_cons, List.not_mem_nil, or_false] at hv
    rcases hv with rfl | rfl | rfl <;> decide
  · decide
  · decide
  · decide
  · decide
  · decide

theorem witness_ArbiterAndClockSettings_RunArbiter :
    let s := given State.reset 0 0x55
    Admits s (acc 0) 0 ∧ (∀ k : ClassId, bits (s.port 0).params[0] (2 * k.val) 2 ≤ 1) ∧
      Admits (given State.reset 0 0xF18) (acc 0) 0 ∧ 24 = bits 0xF18 0 8 ∧ 15 = bits 0xF18 8 8 ∧
      s.arbiter.run = .run ∧ NoGrantDue s := by
  decide

theorem witness_GrantDecision :
    (flying .active [7] .busCycle).arbiter.holder ≠ none ∧
    ((queued .pending).arbiter.holder = none ∧ (queued .pending).arbiter.run = .run ∧
      ((queued .pending).channel 5).state = .pending ∧ ((queued .pending).channel 5).chain.head? = some 7 ∧
      (queued .pending).window 7 = some (win .active) ∧ (win .active).address.toNat % (win .active).size.bytes = 0) := by
  decide

/-- Domain 1 CLOSED; OPEN with code 4CH, with a supervisor's command, and with READ DOMAIN of another domain. -/
theorem witness_FirstThreeChecks :
    (Reaches State.reset (acc 1) 1 ∧ (State.reset.port 1).busy = false ∧ (State.reset.domain 1).state ≠ .opened ∧
      encodeCommandWord (.retireTop (acc 1) 0 0) = some (acc 1, 0x31)) ∧
    (Reaches empty (acc 1) 1 ∧ (empty.port 1).busy = false ∧ (empty.domain 1).state = .opened ∧
      bits 0x4C 0 8 ∉ [0x10, 0x11, 0x12, 0x13, 0x14, 0x15, 0x16, 0x17, 0x20, 0x21, 0x22, 0x23, 0x24, 0x25, 0x26, 0x27,
        0x28, 0x30, 0x31, 0x32, 0x40, 0x41, 0x42, 0x43, 0x44, 0x45, 0x46, 0x47, 0x48, 0x49, 0x4A, 0x4B, 0x4F] ∧ (2#8).toNat ≠ (1 : DomainId).val) := by
  decide

theorem witness_BusyPortDiscards :
    Reaches closing (acc 0) 0 ∧ (closing.port 0).busy = true ∧
      encodeCommandWord (.masterClear (acc 0) 0 0) = some (acc 0, 0x4F) := by
  decide

/-- No chip select, two of them, and both strobes. -/
theorem witness_ApertureSelection :
    apertureOf { chipSelects := 0, bothStrobes := false } = none ∧
      apertureOf { chipSelects := 3, bothStrobes := false } = none ∧
      apertureOf { chipSelects := 1, bothStrobes := true } = none ∧
      encodeCommandWord (.retireTop { chipSelects := 3, bothStrobes := false } 0 0) =
        some ({ chipSelects := 3, bothStrobes := false }, 0x31) := by
  decide

theorem witness_RegisterAccesses :
    Reaches State.reset (acc 3) 3 ∧ (1#4).toNat = (0 : Fin 4).val + 1 ∧ (4#4).toNat = (3 : Fin 4).val + 1 ∧
      5 ≤ (5#4).toNat ∧ 5 ≤ (15#4).toNat ∧ (0#4).toNat = 0 ∧ (8#4).toNat = (3 : Fin 4).val + 5 ∧ 12 ≤ (12#4).toNat := by
  decide

theorem witness_CommandWordRoundTrip :
    (Instr.unknownCommand (acc 0) 0x4C).wellFormed = true ∧
      encodeCommandWord (.unknownCommand (acc 0) 0x4C) = some (acc 0, 0x4C) ∧
      (Instr.bindWindow (acc 1) 255 0xFFFF).wellFormed = true ∧
      encodeCommandWord (.bindWindow (acc 1) 255 0xFFFF) = some (acc 1, 0xFFFFFF12) := by
  decide

theorem witness_RequestEvents :
    ((queued .armed).resetAsserted = false ∧ ((queued .armed).channel 5).line = false ∧ ChannelSound (queued .armed) 5) ∧
    ((queued .pending).resetAsserted = false ∧ ((queued .pending).channel 5).line = true ∧
      ChannelSound (queued .pending) 5) :=
  ⟨⟨by decide, by decide, sound_armed 5⟩, ⟨by decide, by decide, sound_pending 5⟩⟩

theorem witness_BusEvents :
    (∃ u, (flying .active [7] .busWait).memory.record = some u ∧ u.direction ≠ .check ∧ u.phase = .busWait) ∧
    (flying .active [7] .busWait).memory.stale = false ∧
    (∀ u, State.reset.memory.record = some u → u.phase ≠ .busCycle ∧ u.phase ≠ .strobe) :=
  ⟨⟨_, rfl, by decide, by decide⟩, by decide, nofun⟩

/-- The unit record of the flying states. -/
def inFlightUnit (st : WindowState) (ph : Phase) : UnitRecord := { unitFor 5 7 (win st) with phase := ph }

/-- MDONE, MERR, the end of a strobe and a timeout at the unit limit each end window 7's unit. -/
theorem witness_UnitEnds :
    UnitEnds (flying .active [7] .busCycle) (inFlightUnit .active .busCycle) .mdone none ∧
    UnitEnds (flying .active [7] .busCycle) (inFlightUnit .active .busCycle) .merr (some .busError) ∧
    UnitEnds (flying .active [7] .strobe) (inFlightUnit .active .strobe) .strobeEnd none ∧
    UnitEnds { flying .active [7] .busWait with clock := { exponent := 8, unitLimit := 1, divider := 0 } }
      (inFlightUnit .active .busWait) .unitTimeout (some .unitTimeout) := by
  refine ⟨?_, ?_, ?_, ?_⟩ <;> unfold UnitEnds <;> decide

/-- BLOCK, burst 0 of 8, remaining 2: the channel goes on. In SINGLE it yields. -/
theorem witness_UnitGoesOn_UnitYields :
    (let s := flying .active [7] .busCycle;
      s.window 7 = some (win .active) ∧ (win .active).state = .active ∧ (s.domain 1).clearing = false ∧
        (s.channel 5).chain.head? = some 7 ∧ (s.channel 5).state = .moving ∧
        continues s.arbiter (s.channel 5) (win .active)) ∧
    (let s := (flying .active [7] .busCycle).updChannel 5 fun ch => { ch with mode := .single };
      UnitEnds s (inFlightUnit .active .busCycle) .mdone none ∧ s.window 7 = some (win .active) ∧
        (s.channel 5).state = .moving ∧ ¬ continues s.arbiter (s.channel 5) (win .active)) := by
  unfold UnitEnds continues
  decide

/-- With and without a disable pending. -/
theorem witness_HeadFails :
    ((flying .active [7] .busCycle).channel 5).disablePending = false ∧
    (let s := (flying .active [7] .busCycle).updChannel 5 fun ch => { ch with disablePending := true };
      UnitEnds s (inFlightUnit .active .busCycle) .merr (some .busError) ∧ s.window 7 = some (win .active) ∧
        (s.domain 1).clearing = false ∧ (s.channel 5).disablePending = true) := by
  unfold UnitEnds
  decide

theorem witness_DrainEnds :
    let s := flying .draining [] .busCycle
    UnitEnds s (inFlightUnit .draining .busCycle) .mdone none ∧
      UnitEnds s (inFlightUnit .draining .busCycle) .merr (some .busError) ∧ s.window 7 = some (win .draining) ∧
      (s.domain 1).clearing = false ∧ (s.channel 5).state = .moving := by
  unfold UnitEnds
  decide

/-- A unit of domain 1's ends under CLOSE DOMAIN, and under MASTER CLEAR with domain 0 clearing too. -/
theorem witness_TornDownUnitEnds :
    (UnitEnds closing (inFlightUnit .draining .busCycle) .mdone none ∧ closing.window 7 = some (win .draining) ∧
      (closing.domain 1).clearing = true ∧ StructureSound closing ∧ CountsAgree closing ∧
      (closing.port 0).waiting = some (.close 1 32)) ∧
    (UnitEnds clearing (inFlightUnit .draining .busCycle) .merr (some .busError) ∧
      clearing.window 7 = some (win .draining) ∧ (clearing.domain 1).clearing = true ∧
      (clearing.domain 0).clearing = true ∧ StructureSound clearing ∧ CountsAgree clearing ∧
      (clearing.port 0).waiting = some (.masterClear 1 32)) :=
  ⟨⟨by unfold UnitEnds; decide, by decide, by decide, structure_closing, by decide, by decide⟩,
    ⟨by unfold UnitEnds; decide, by decide, by decide, by decide, structure_clearing, by decide, by decide⟩⟩

/-- Window 7's lease of 1 runs out; a unit of age 0 ages under unit limit 2. -/
theorem witness_LeaseTick_TickShares :
    (let s := clocked (queued .armed);
      s.resetAsserted = false ∧ s.clock.exponent ≠ 0 ∧ ChainsAgree s ∧ LeaseRunsOut s 7 ∧
        ∀ h : Handle, s.expires h = true ↔ LeaseRunsOut s h) ∧
    (let s := clocked (flying .active [7] .busCycle);
      s.memory.record = some (inFlightUnit .active .busCycle) ∧ UnitAges s (inFlightUnit .active .busCycle) ∧
        (inFlightUnit .active .busCycle).age + 1 < s.clock.unitLimit) ∧
    ¬ LeaseRunsOut (clocked (queued .armed)) 8 :=
  ⟨⟨by decide, by decide, by decide, expires_iff.mp (by decide), fun _ => expires_iff⟩,
    ⟨by decide, by unfold UnitAges; decide, by decide⟩, fun h => absurd (expires_iff.mpr h) (by decide)⟩

/-- A unit in flight in a sound state. -/
theorem witness_UnitInsideHomeRange :
    WindowsSound (flying .active [7] .busCycle) ∧ WindowsHomed (flying .active [7] .busCycle) ∧
      StructureSound (flying .active [7] .busCycle) ∧
      (flying .active [7] .busCycle).memory.record = some (inFlightUnit .active .busCycle) ∧
      (inFlightUnit .active .busCycle).address.toNat % (inFlightUnit .active .busCycle).size.bytes = 0 :=
  ⟨by decide, by decide, structure_flying, by decide, by decide⟩

/-- A state that meets every invariant, with MDONE at the front of its queue, and the step from it. -/
theorem witness_kept :
    let s : State := { flying .active [7] .busCycle with pending := [.mdone] }
    WindowsSound s ∧ CountsAgree s ∧ WindowsHomed s ∧ NoticesAgree s ∧
      StructureSound { flying .active [7] .busCycle with pending := [.mdone] } ∧ DomainsSound s ∧ ClockInRange s ∧
      s.memory.record = some (inFlightUnit .active .busCycle) ∧ ∃ t, step s = .next t :=
  ⟨by decide, by decide, by decide, by decide, structure_flying, by decide, by decide, by decide, step_next _⟩

theorem witness_SettingReadBack : ∀ st ∈ [WindowState.parked, .active, .spent, .failed], WindowSound (win st) := by
  decide

end Sys2Proof.Tests
end

/-! What a step can do, said once, for every property that steps are to keep. -/

namespace Sys2Proof.Machine

/-! ## What a command can do -/

/-- What one command of the queue can make of a state: one constructor for each kind of event, with the host accesses
told apart by what becomes of them (R158, R161). -/
inductive Change (s : State) : State → Prop where
  /-- an access that reaches nothing, or an event that the part does not take -/
  | unchanged : Change s s
  /-- a COMMAND write that is accepted in an OPEN domain, taken by the block its code names (R162) -/
  | command (d : DomainId) (w : Word) : s.resetAsserted = false → (s.port d).busy = false →
      (s.domain d).state = .opened →
      Change s ((bodyOf (codeField w) d (targetField w) (s.accept d w)).apply (s.accept d w) d)
  /-- a host access that changes one port record, and not what waits there: a discarded or closed COMMAND write, a PARAM
  write, a STATUS read -/
  | port (d : DomainId) (f : Port → Port) (r : Word) : s.resetAsserted = false →
      (f (s.port d)).waiting = (s.port d).waiting → Change s { s.updPort d f with readData := r }
  /-- a read that drives the word 0 and has no effect (R158) -/
  | readZero : Change s { s with readData := 0 }
  /-- an ACKNOWLEDGE read (R123) -/
  | deliver (d : DomainId) (r : Word) : s.resetAsserted = false → Change s { s.deliver d with readData := r }
  /-- a level on an RQ pin that is no event (R29, R179) -/
  | pin (c : ChannelId) (b : Bool) : Change s (s.setPin c b)
  /-- a request event (R29) -/
  | request (c : ChannelId) (b : Bool) : s.resetAsserted = false → (s.channel c).line ≠ b →
      Change s ((s.setPin c b).updChannel c fun ch => ch.requestEvent b).grantDecision
  /-- MBGNT on a unit that waits for the bus (R71) -/
  | busGrant (u : UnitRecord) : s.resetAsserted = false → s.memory.record = some u → s.wantsBus u = true →
      Change s (s.setRecord (some { u with phase := .busCycle }))
  /-- a completion that is no unit's (R75) -/
  | discard : s.resetAsserted = false → (∀ u, s.memory.record = some u → u.phase ≠ .busCycle) →
      Change s s.discardCompletion
  /-- the unit in flight ends OK, at MDONE or at the end of its strobe (R73, R75) -/
  | unitOk (u : UnitRecord) : s.resetAsserted = false → s.memory.record = some u →
      (u.phase = .busCycle ∨ u.phase = .strobe) → Change s (s.unitOk u)
  /-- the unit in flight ends at MERR (R81) -/
  | busError (u : UnitRecord) : s.resetAsserted = false → s.memory.record = some u → u.phase = .busCycle →
      Change s (s.unitFailed u .busError)
  /-- a lease tick (R104) -/
  | tick : s.resetAsserted = false → s.clock.exponent ≠ 0 → Change s s.tick
  /-- one window's share of a lease tick (R109) -/
  | expiry (h : Handle) : s.resetAsserted = false → s.clock.exponent ≠ 0 → s.expires h = true → Change s (s.expire [h])
  /-- the memory port's share of a lease tick that times the unit in flight out (R83) -/
  | timeout (u : UnitRecord) : s.resetAsserted = false → s.clock.exponent ≠ 0 → s.memory.record = some u →
      s.timesOut u = true → Change s (s.timeout u)
  /-- RESETN is asserted (R179) -/
  | reset : Change s s.hardwareReset
  /-- RESETN is withdrawn (R179) -/
  | release : s.resetAsserted = true → Change s s.resetRelease

/-- A write access does what its aperture does with it, or nothing. -/
theorem change_hostWrite {s : State} (a : Access) {f : DomainId → State}
    (h : ∀ d, s.resetAsserted = false → Change s (f d)) : Change s (s.hostWrite a f) := by
  by_cases hr : s.resetAsserted = true
  · rw [hostWrite_misses f (.inl hr)]
    exact .unchanged
  · simp only [Bool.not_eq_true] at hr
    cases ha : apertureOf a with
    | none =>
      rw [hostWrite_misses f (.inr ha)]
      exact .unchanged
    | some d =>
      rw [hostWrite_reaches f hr ha]
      exact h d hr

/-- A read access does what its aperture does with it, or changes readData at most. -/
theorem change_hostRead {s : State} (a : Access) (r : BitVec 4) {f : DomainId → State}
    (h : ∀ d v, s.resetAsserted = false → Change s { f d with readData := v }) : Change s (s.hostRead a r f) := by
  unfold State.hostRead
  split
  · exact .unchanged
  · next hr =>
    split
    · exact h _ _ (by simpa using hr)
    · split
      · exact .readZero
      · exact .unchanged

/-- A write access that changes one port record, and not what waits there. -/
theorem change_updPort {s : State} (d : DomainId) (f : Port → Port) (hr : s.resetAsserted = false)
    (hf : (f (s.port d)).waiting = (s.port d).waiting) : Change s (s.updPort d f) :=
  .port d f s.readData hr hf

/-- A COMMAND write of any word (R161, R162). -/
theorem change_commandWordWrite {s : State} (d : DomainId) (w : Word) (hr : s.resetAsserted = false) :
    Change s (s.commandWordWrite d w) := by
  unfold State.commandWordWrite
  by_cases hb : (s.port d).busy = true
  · rw [commandWrite_busy hb]
    exact change_updPort d _ hr rfl
  · simp only [Bool.not_eq_true] at hb
    by_cases ho : (s.domain d).state = .opened
    · rw [commandWrite_open hb ho]
      exact .command d w hr hb ho
    · rw [commandWrite_closed hb ho]
      have hw : (s.port d).waiting = none := by simpa [Port.busy] using hb
      have he : (s.accept d w).complete d .closed noResults =
          s.updPort d fun p => { p with commandWord := w, taken := p.params }.completed .closed noResults := by
        simp [State.accept, State.complete, State.updPort, State.port]
      rw [he]
      exact change_updPort d _ hr (by simp [Port.completed, hw])

/-- A listed command is the COMMAND write of its word: the block it names is the one its code names (R175). -/
theorem hostWrite_body (s : State) (a : Access) (k t : BitVec 8) (u : BitVec 16) :
    (s.hostWrite a fun d => s.commandWrite d (commandWord k t u) (bodyOf k)) =
      s.hostWrite a fun d => s.commandWordWrite d (commandWord k t u) := by
  simp only [State.commandWordWrite, codeField_commandWord]

theorem change_listed {s : State} (a : Access) (k t : BitVec 8) (u : BitVec 16) :
    Change s (s.hostWrite a fun d => s.commandWrite d (commandWord k t u) (bodyOf k)) := by
  rw [hostWrite_body]
  exact change_hostWrite a fun d hr => change_commandWordWrite d _ hr

theorem change_registerWrite {s : State} (d : DomainId) (r : BitVec 4) (v : Word) (hr : s.resetAsserted = false) :
    Change s (s.registerWrite d r v) := by
  unfold State.registerWrite
  split
  · exact change_commandWordWrite d v hr
  · exact change_updPort d _ hr rfl
  · exact change_updPort d _ hr rfl
  · exact change_updPort d _ hr rfl
  · exact change_updPort d _ hr rfl
  · exact .unchanged

theorem change_requestLine (s : State) (c : ChannelId) (b : Bool) : Change s (s.requestLine c b) := by
  unfold State.requestLine
  split
  · exact .pin c b
  · next hr =>
    split
    · exact .pin c b
    · next hl => exact .request c b (by simpa using hr) hl

theorem change_unlessReset {s t : State} (h : s.resetAsserted = false → Change s t) : Change s (s.unlessReset t) := by
  unfold State.unlessReset
  split
  · exact .unchanged
  · next hr => exact h (by simpa using hr)

theorem change_completionTaken {s : State} {f : UnitRecord → State} (hr : s.resetAsserted = false)
    (h : ∀ u, s.memory.record = some u → u.phase = .busCycle → Change s (f u)) : Change s (s.completionTaken f) := by
  unfold State.completionTaken
  split
  · next hm => exact .discard hr fun u hu => by rw [hm] at hu; cases hu
  · next u hu =>
    split
    · next hp => exact h u hu hp
    · next hp => exact .discard hr fun v hv => by rw [hu] at hv; cases hv; exact hp

theorem change_busGrant {s : State} (hr : s.resetAsserted = false) : Change s s.busGrant := by
  unfold State.busGrant
  split
  · exact .unchanged
  · next u hu =>
    split
    · next hw => exact .busGrant u hr hu hw
    · exact .unchanged

theorem change_strobeEnd {s : State} (hr : s.resetAsserted = false) : Change s s.strobeEnd := by
  unfold State.strobeEnd
  split
  · exact .unchanged
  · next u hu =>
    split
    · next hp => exact .unitOk u hr hu (.inr hp)
    · exact .unchanged

theorem tickDelivered_iff {s : State} : s.tickDelivered = true ↔ s.resetAsserted = false ∧ s.clock.exponent ≠ 0 := by
  simp [State.tickDelivered]

theorem change_unitTimeout {s : State} (hd : s.tickDelivered = true) : Change s s.unitTimeout := by
  obtain ⟨hr, he⟩ := tickDelivered_iff.mp hd
  unfold State.unitTimeout
  split
  · exact .unchanged
  · next u hu =>
    split
    · next ht => exact .timeout u hr he hu ht
    · exact .unchanged

theorem change_ite {s t : State} {p : Prop} [Decidable p] (h : p → Change s t) : Change s (if p then t else s) := by
  split
  · next hp => exact h hp
  · exact .unchanged

/-- Every command makes one of these changes. -/
theorem exec_change (i : Instr) (s : State) : ∃ t, exec i s = .next t ∧ Change s t := by
  cases i with
  | unknownCommand a w => exact ⟨_, rfl, change_hostWrite a fun d hr => change_commandWordWrite d w hr⟩
  | discardedWrite a w => exact ⟨_, rfl, change_hostWrite a fun d hr => change_commandWordWrite d w hr⟩
  | registerWrite a r v => exact ⟨_, rfl, change_hostWrite a fun d hr => change_registerWrite d r v hr⟩
  | statusRead a => exact ⟨_, rfl, change_hostRead a _ fun d v hr => .port d _ v hr rfl⟩
  | acknowledge a => exact ⟨_, rfl, change_hostRead a _ fun d v hr => .deliver d v hr⟩
  | requestAssertion c => exact ⟨_, rfl, change_requestLine s c true⟩
  | requestWithdrawal c => exact ⟨_, rfl, change_requestLine s c false⟩
  | mbgnt => exact ⟨_, rfl, change_unlessReset change_busGrant⟩
  | mdone =>
    exact ⟨_, rfl, change_unlessReset fun hr => change_completionTaken hr fun u hu hp => .unitOk u hr hu (.inl hp)⟩
  | merr =>
    exact ⟨_, rfl, change_unlessReset fun hr => change_completionTaken hr fun u hu hp => .busError u hr hu hp⟩
  | strobeEnd => exact ⟨_, rfl, change_unlessReset change_strobeEnd⟩
  | leaseTick => exact ⟨_, rfl, change_ite fun h => .tick (tickDelivered_iff.mp h).1 (tickDelivered_iff.mp h).2⟩
  | leaseExpiry h =>
    exact ⟨_, rfl, change_ite fun hh => .expiry h (tickDelivered_iff.mp hh.1).1 (tickDelivered_iff.mp hh.1).2 hh.2⟩
  | unitTimeout => exact ⟨_, rfl, change_ite change_unitTimeout⟩
  | hardwareReset => exact ⟨_, rfl, .reset⟩
  | resetRelease => exact ⟨_, rfl, change_ite .release⟩
  | openWindow a t u => exact ⟨_, rfl, change_listed a 0x10#8 t u⟩
  | releaseWindow a t u => exact ⟨_, rfl, change_listed a 0x11#8 t u⟩
  | bindWindow a t u => exact ⟨_, rfl, change_listed a 0x12#8 t u⟩
  | revokeWindow a t u => exact ⟨_, rfl, change_listed a 0x13#8 t u⟩
  | rewindWindow a t u => exact ⟨_, rfl, change_listed a 0x14#8 t u⟩
  | amendWindow a t u => exact ⟨_, rfl, change_listed a 0x15#8 t u⟩
  | touchWindow a t u => exact ⟨_, rfl, change_listed a 0x16#8 t u⟩
  | readWindow a t u => exact ⟨_, rfl, change_listed a 0x17#8 t u⟩
  | enableChannel a t u => exact ⟨_, rfl, change_listed a 0x20#8 t u⟩
  | disableChannel a t u => exact ⟨_, rfl, change_listed a 0x21#8 t u⟩
  | maskChannel a t u => exact ⟨_, rfl, change_listed a 0x22#8 t u⟩
  | unmaskChannel a t u => exact ⟨_, rfl, change_listed a 0x23#8 t u⟩
  | setChannel a t u => exact ⟨_, rfl, change_listed a 0x24#8 t u⟩
  | cutChain a t u => exact ⟨_, rfl, change_listed a 0x25#8 t u⟩
  | resumeChannel a t u => exact ⟨_, rfl, change_listed a 0x26#8 t u⟩
  | pulseChannel a t u => exact ⟨_, rfl, change_listed a 0x27#8 t u⟩
  | readChannel a t u => exact ⟨_, rfl, change_listed a 0x28#8 t u⟩
  | retireNotice a t u => exact ⟨_, rfl, change_listed a 0x30#8 t u⟩
  | retireTop a t u => exact ⟨_, rfl, change_listed a 0x31#8 t u⟩
  | setNotices a t u => exact ⟨_, rfl, change_listed a 0x32#8 t u⟩
  | openDomain a t u => exact ⟨_, rfl, change_listed a 0x40#8 t u⟩
  | closeDomain a t u => exact ⟨_, rfl, change_listed a 0x41#8 t u⟩
  | setQuota a t u => exact ⟨_, rfl, change_listed a 0x42#8 t u⟩
  | setRange a t u => exact ⟨_, rfl, change_listed a 0x43#8 t u⟩
  | clearRange a t u => exact ⟨_, rfl, change_listed a 0x44#8 t u⟩
  | assignChannel a t u => exact ⟨_, rfl, change_listed a 0x45#8 t u⟩
  | unassignChannel a t u => exact ⟨_, rfl, change_listed a 0x46#8 t u⟩
  | setArbiter a t u => exact ⟨_, rfl, change_listed a 0x47#8 t u⟩
  | pauseArbiter a t u => exact ⟨_, rfl, change_listed a 0x48#8 t u⟩
  | runArbiter a t u => exact ⟨_, rfl, change_listed a 0x49#8 t u⟩
  | setClock a t u => exact ⟨_, rfl, change_listed a 0x4A#8 t u⟩
  | readDomain a t u => exact ⟨_, rfl, change_listed a 0x4B#8 t u⟩
  | masterClear a t u => exact ⟨_, rfl, change_listed a 0x4F#8 t u⟩

/-- A CLK period does nothing, counts the divider up below its limit, or delivers the tick (R104). -/
theorem clkPeriod_cases (s : State) :
    s.clkPeriod = s ∨
    (s.resetAsserted = false ∧ s.clock.exponent ≠ 0 ∧ s.clock.divider + 1 < 2 ^ s.clock.exponent ∧
      s.clkPeriod = { s with clock := { s.clock with divider := s.clock.divider + 1 } }) ∨
    (s.resetAsserted = false ∧ s.clock.exponent ≠ 0 ∧ s.clkPeriod = s.tick) := by
  unfold State.clkPeriod
  split
  · exact .inl rfl
  · next h =>
    simp only [not_or, Bool.not_eq_true] at h
    split
    · exact .inr (.inr ⟨h.1, h.2, rfl⟩)
    · next hd => exact .inr (.inl ⟨h.1, h.2, by omega, rfl⟩)

/-- A property of the state that a command's taking off the queue and the divider's count leave alone, and that every change
keeps, is kept by every step. -/
theorem keptByStep_of_change {P : State → Prop} (hq : ∀ s q, P s → P { s with pending := q })
    (hd : ∀ s : State, s.clock.exponent ≠ 0 → s.clock.divider + 1 < 2 ^ s.clock.exponent → P s →
      P { s with clock := { s.clock with divider := s.clock.divider + 1 } })
    (hc : ∀ s t, Change s t → P s → P t) : KeptByStep P := by
  intro s t hs hstep
  unfold step at hstep
  split at hstep
  · injection hstep with hstep
    obtain h | ⟨-, he, hl, h⟩ | ⟨hr, he, h⟩ := clkPeriod_cases s <;> rw [← hstep, h]
    · exact hs
    · exact hd s he hl hs
    · exact hc s _ (.tick hr he) hs
  · next c rest _ =>
    obtain ⟨v, hv, hch⟩ := exec_change c { s with pending := rest }
    rw [hv] at hstep
    injection hstep with hstep
    exact hstep ▸ hc _ v hch (hq s rest hs)

end Sys2Proof.Machine

namespace Sys2Proof.Machine

/-! ## The blocks that a command's own block may change -/

theorem Frame.mono {s t : State} {l m : List Block} (h : Frame s t l) (hlm : ∀ b ∈ l, b ∈ m) : Frame s t m :=
  fun b hb => h b fun hbl => hb (hlm b hbl)

theorem Frame.updChannel (s : State) (c : ChannelId) (f : Channel → Channel) :
    Frame s (s.updChannel c f) [.channels] := by
  intro b hb
  cases b <;> first | rfl | exact absurd (by simp) hb

theorem Frame.updNotice (s : State) (d : DomainId) (f : NoticeRecord → NoticeRecord) :
    Frame s (s.updNotice d f) [.notices] := by
  intro b hb
  cases b <;> first | rfl | exact absurd (by simp) hb

theorem Frame.grantDecision (s : State) : Frame s s.grantDecision [.channels, .arbiter, .memory] := by
  intro b hb
  cases b
  case channels | arbiter | memory => exact absurd (by simp) hb
  all_goals simp [SameIn]

theorem Frame.arbiter (s : State) (a : Arbiter) : Frame s { s with arbiter := a } [.arbiter] := by
  intro b hb
  cases b <;> first | rfl | exact absurd (by simp) hb

theorem Frame.clock (s : State) (k : Clock) : Frame s { s with clock := k } [.clock] := by
  intro b hb
  cases b <;> first | rfl | exact absurd (by simp) hb

theorem Frame.updChannel_grantDecision (s : State) (c : ChannelId) (f : Channel → Channel) :
    Frame s (s.updChannel c f).grantDecision [.channels, .arbiter, .memory] :=
  ((Frame.updChannel s c f).mono (by simp)).trans (Frame.grantDecision _)

/-- A command's own block changes these blocks at most, where it does not refuse. -/
def Within (x : Completion) (s : State) (l : List Block) : Prop :=
  match x with
  | .done t _ => Frame s t l
  | .refused _ => True
  | .waits t _ => Frame s t l

theorem Within.mono {x : Completion} {s : State} {l m : List Block} (h : Within x s l) (hlm : ∀ b ∈ l, b ∈ m) :
    Within x s m := by
  cases x with
  | done t r => exact Frame.mono h hlm
  | refused o => trivial
  | waits t w => exact Frame.mono h hlm

theorem within_supervisor {s : State} {d : DomainId} {x : Completion} {l : List Block} (h : Within x s l) :
    Within (supervisor d x) s l := by
  unfold supervisor
  split
  · exact h
  · trivial

theorem within_onChannel {s : State} {d : DomainId} {t : BitVec 8} {k : ChannelId → Completion} {l : List Block}
    (h : ∀ c, Within (k c) s l) : Within (s.onChannel d t k) s l := by
  unfold State.onChannel
  split
  · trivial
  · split
    · exact h _
    · trivial

theorem enableChannel_within (d : DomainId) (t : BitVec 8) (s : State) :
    Within (enableChannel d t s) s [.channels, .arbiter, .memory] := by
  refine within_onChannel fun c => ?_
  split
  · trivial
  · exact Frame.updChannel_grantDecision s c _

theorem maskChannel_within (d : DomainId) (t : BitVec 8) (s : State) : Within (maskChannel d t s) s [.channels] :=
  within_onChannel fun c => Frame.updChannel s c _

theorem unmaskChannel_within (d : DomainId) (t : BitVec 8) (s : State) :
    Within (unmaskChannel d t s) s [.channels, .arbiter, .memory] :=
  within_onChannel fun c => Frame.updChannel_grantDecision s c _

theorem setChannel_within (d : DomainId) (t : BitVec 8) (s : State) : Within (setChannel d t s) s [.channels] := by
  refine within_onChannel fun c => ?_
  split
  · trivial
  · split
    · trivial
    · exact Frame.updChannel s c _

theorem pulseChannel_within (d : DomainId) (t : BitVec 8) (s : State) :
    Within (pulseChannel d t s) s [.channels, .arbiter, .memory] := by
  refine within_onChannel fun c => ?_
  split
  all_goals first | trivial | exact Frame.updChannel_grantDecision s c _

theorem readChannel_within (d : DomainId) (t : BitVec 8) (s : State) : Within (readChannel d t s) s [.channels] := by
  unfold readChannel
  split
  · trivial
  · split
    · trivial
    · exact Frame.updChannel s _ _

theorem retireNotice_within (d : DomainId) (t : BitVec 8) (s : State) : Within (retireNotice d t s) s [.notices] := by
  unfold retireNotice
  split
  · trivial
  · split
    · trivial
    · split
      · trivial
      · exact Frame.updNotice s d _

theorem retireTop_within (d : DomainId) (t : BitVec 8) (s : State) : Within (retireTop d t s) s [.notices] := by
  unfold retireTop
  split
  · trivial
  · exact Frame.updNotice s d _

theorem setNotices_within (d : DomainId) (t : BitVec 8) (s : State) : Within (setNotices d t s) s [.notices] := by
  unfold setNotices
  split
  · trivial
  · exact Frame.updNotice s d _

theorem assignChannel_within (d : DomainId) (t : BitVec 8) (s : State) : Within (assignChannel d t s) s [.channels] := by
  refine within_supervisor ?_
  split
  · split
    · trivial
    · split
      · trivial
      · exact Frame.updChannel s _ _
  · trivial

theorem unassignChannel_within (d : DomainId) (t : BitVec 8) (s : State) :
    Within (unassignChannel d t s) s [.channels] := by
  refine within_supervisor ?_
  split
  · trivial
  · split
    · trivial
    · split
      · trivial
      · exact Frame.updChannel s _ _

theorem setArbiter_within (d : DomainId) (t : BitVec 8) (s : State) : Within (setArbiter d t s) s [.arbiter] := by
  refine within_supervisor ?_
  split
  · trivial
  · exact Frame.arbiter s _

theorem pauseArbiter_within (d : DomainId) (t : BitVec 8) (s : State) : Within (pauseArbiter d t s) s [.arbiter] :=
  within_supervisor (Frame.arbiter s _)

theorem runArbiter_within (d : DomainId) (t : BitVec 8) (s : State) :
    Within (runArbiter d t s) s [.channels, .arbiter, .memory] :=
  within_supervisor (((Frame.arbiter s _).mono (by simp)).trans (Frame.grantDecision _))

theorem setClock_within (d : DomainId) (t : BitVec 8) (s : State) : Within (setClock d t s) s [.clock] := by
  refine within_supervisor ?_
  dsimp only
  split
  · trivial
  · exact Frame.clock s _

theorem readDomain_within (d : DomainId) (t : BitVec 8) (s : State) : Within (readDomain d t s) s [] := by
  unfold readDomain onDomain onSlot
  split
  · trivial
  · split
    · trivial
    · split
      · trivial
      · exact Frame.refl s []

theorem readWindow_within (d : DomainId) (t : BitVec 8) (s : State) : Within (readWindow d t s) s [] := by
  unfold readWindow
  split
  · trivial
  · split
    · trivial
    · split
      · exact Frame.refl s []
      · exact Frame.refl s []
      · trivial

/-- The blocks that no command but a window, domain or range command changes: all but the windows and the domains. -/
def quietBlocks : List Block := [.channels, .notices, .arbiter, .memory, .clock]

/-- The commands whose own block may change a window or a domain record. -/
def recordCommands : List (DomainId → BitVec 8 → State → Completion) :=
  [openWindow, releaseWindow, bindWindow, revokeWindow, rewindWindow, amendWindow, touchWindow, disableChannel, cutChain,
    resumeChannel, openDomain, closeDomain, setQuota, setRange, clearRange, masterClear]

/-- The block that a code names changes no window and no domain record, or is one of the commands that may. -/
theorem bodyOf_quiet (k : BitVec 8) :
    (∀ d t s, Within (bodyOf k d t s) s quietBlocks) ∨ bodyOf k ∈ recordCommands := by
  generalize hf : bodyOf k = f
  unfold bodyOf at hf
  split at hf <;> subst hf
  case h_8 => exact .inl fun d t s => (readWindow_within d t s).mono (by simp)
  case h_9 => exact .inl fun d t s => (enableChannel_within d t s).mono (by simp [quietBlocks])
  case h_11 => exact .inl fun d t s => (maskChannel_within d t s).mono (by simp [quietBlocks])
  case h_12 => exact .inl fun d t s => (unmaskChannel_within d t s).mono (by simp [quietBlocks])
  case h_13 => exact .inl fun d t s => (setChannel_within d t s).mono (by simp [quietBlocks])
  case h_16 => exact .inl fun d t s => (pulseChannel_within d t s).mono (by simp [quietBlocks])
  case h_17 => exact .inl fun d t s => (readChannel_within d t s).mono (by simp [quietBlocks])
  case h_18 => exact .inl fun d t s => (retireNotice_within d t s).mono (by simp [quietBlocks])
  case h_19 => exact .inl fun d t s => (retireTop_within d t s).mono (by simp [quietBlocks])
  case h_20 => exact .inl fun d t s => (setNotices_within d t s).mono (by simp [quietBlocks])
  case h_26 => exact .inl fun d t s => (assignChannel_within d t s).mono (by simp [quietBlocks])
  case h_27 => exact .inl fun d t s => (unassignChannel_within d t s).mono (by simp [quietBlocks])
  case h_28 => exact .inl fun d t s => (setArbiter_within d t s).mono (by simp [quietBlocks])
  case h_29 => exact .inl fun d t s => (pauseArbiter_within d t s).mono (by simp [quietBlocks])
  case h_30 => exact .inl fun d t s => (runArbiter_within d t s).mono (by simp [quietBlocks])
  case h_31 => exact .inl fun d t s => (setClock_within d t s).mono (by simp [quietBlocks])
  case h_32 => exact .inl fun d t s => (readDomain_within d t s).mono (by simp)
  case h_34 => exact .inl fun d t s => trivial
  all_goals exact .inr (by simp [recordCommands])

end Sys2Proof.Machine

namespace Sys2Proof.Machine

/-! ## Properties of the window and domain records -/

/-- What a command's own block leaves has the property, where it does not refuse. -/
def Keeps (P : State → Prop) (x : Completion) : Prop :=
  match x with
  | .done t _ => P t
  | .refused _ => True
  | .waits t _ => P t

theorem keeps_supervisor {P : State → Prop} {d : DomainId} {x : Completion} (h : Keeps P x) :
    Keeps P (supervisor d x) := by
  unfold supervisor
  split
  · exact h
  · trivial

theorem keeps_onDomain {P : State → Prop} {t : BitVec 8} {k : DomainId → Completion} (h : ∀ x, Keeps P (k x)) :
    Keeps P (onDomain t k) := by
  unfold onDomain
  split
  · trivial
  · exact h _

theorem keeps_onSlot {P : State → Prop} {w : Word} {k : SlotId → Completion} (h : ∀ i, Keeps P (k i)) :
    Keeps P (onSlot w k) := by
  unfold onSlot
  split
  · trivial
  · exact h _

theorem keeps_onChannel {P : State → Prop} {s : State} {d : DomainId} {t : BitVec 8} {k : ChannelId → Completion}
    (h : ∀ c, Keeps P (k c)) : Keeps P (s.onChannel d t k) := by
  unfold State.onChannel
  split
  · trivial
  · split
    · exact h _
    · trivial

@[simp] theorem deliver_windows (s : State) (d : DomainId) : (s.deliver d).windows = s.windows := by
  unfold State.deliver
  split
  · rfl
  · dsimp only
    split <;> simp

@[simp] theorem deliver_domains (s : State) (d : DomainId) : (s.deliver d).domains = s.domains := by
  unfold State.deliver
  split
  · rfl
  · dsimp only
    split <;> simp

/-- What the memory port's share of a tick can do. -/
theorem ageUnit_cases (s : State) :
    s.ageUnit = s ∨
    ∃ u, s.memory.record = some u ∧ s.ages u = true ∧
      ((s.clock.unitLimit ≤ u.age + 1 ∧ s.ageUnit = s.timeout u) ∨
       (u.age + 1 < s.clock.unitLimit ∧ s.ageUnit = s.setRecord (some { u with age := u.age + 1 }))) := by
  unfold State.ageUnit
  split
  · exact .inl rfl
  · next u hu =>
    split
    · next ha =>
      refine .inr ⟨u, hu, ha, ?_⟩
      split
      · next hl => exact .inl ⟨hl, rfl⟩
      · next hl => exact .inr ⟨by omega, rfl⟩
    · exact .inl rfl

/-- A property that reads the window and domain records alone is kept by every step if the commands that may change such a
record, the end of a unit, the lease countdown and the reset keep it. -/
theorem keptByStep_of_records {P : State → Prop}
    (hcongr : ∀ s t : State, t.windows = s.windows → t.domains = s.domains → P s → P t)
    (hcommand : ∀ f ∈ recordCommands, ∀ d t s, P s → Keeps P (f d t s))
    (hok : ∀ s u, P s → P (s.unitOk u)) (hfailed : ∀ s u f, P s → P (s.unitFailed u f))
    (hcountdown : ∀ s, P s → P s.countdown) (hexpire : ∀ s h, s.expires h = true → P s → P (s.expire [h]))
    (hreset : P State.reset) : KeptByStep P := by
  have htimeout : ∀ s u, P s → P (s.timeout u) := by
    intro s u hs
    unfold State.timeout
    split
    · exact hfailed _ u _ (hcongr s _ rfl rfl hs)
    · exact hfailed s u _ hs
  have hage : ∀ s, P s → P s.ageUnit := by
    intro s hs
    obtain h | ⟨u, -, -, ⟨-, h⟩ | ⟨-, h⟩⟩ := ageUnit_cases s <;> rw [h]
    · exact hs
    · exact htimeout s u hs
    · exact hcongr s _ rfl rfl hs
  refine keptByStep_of_change (fun s q => hcongr s _ rfl rfl) (fun s _ _ => hcongr s _ rfl rfl) ?_
  intro s t hchange hs
  cases hchange with
  | unchanged => exact hs
  | command d w hr hb ho =>
    have ha : P (s.accept d w) := hcongr s _ rfl rfl hs
    have hk : Keeps P (bodyOf (codeField w) d (targetField w) (s.accept d w)) := by
      obtain hq | hm := bodyOf_quiet (codeField w)
      · have hw := hq d (targetField w) (s.accept d w)
        cases hx : bodyOf (codeField w) d (targetField w) (s.accept d w) with
        | refused o => trivial
        | done v r =>
          rw [hx] at hw
          exact hcongr _ v (hw .windows (by simp [quietBlocks])) (hw .domains (by simp [quietBlocks])) ha
        | waits v y =>
          rw [hx] at hw
          exact hcongr _ v (hw .windows (by simp [quietBlocks])) (hw .domains (by simp [quietBlocks])) ha
      · exact hcommand _ hm d _ _ ha
    obtain ⟨v, r, hx, he⟩ | ⟨o, hx, he⟩ | ⟨v, y, hx, he⟩ :=
      apply_cases (bodyOf (codeField w) d (targetField w) (s.accept d w)) (s.accept d w) d <;> rw [he]
    · rw [hx] at hk
      exact hcongr v _ rfl rfl hk
    · exact hcongr (s.accept d w) _ rfl rfl ha
    · rw [hx] at hk
      exact hcongr v _ rfl rfl hk
  | port d f r => exact hcongr s _ rfl rfl hs
  | readZero => exact hcongr s _ rfl rfl hs
  | deliver d r => exact hcongr s _ (deliver_windows s d) (deliver_domains s d) hs
  | pin c b => exact hcongr s _ rfl rfl hs
  | request c b => exact hcongr s _ (by simp) (by simp) hs
  | busGrant u => exact hcongr s _ rfl rfl hs
  | discard => exact hcongr s _ rfl rfl hs
  | unitOk u => exact hok s u hs
  | busError u => exact hfailed s u _ hs
  | tick => exact hage _ (hcountdown _ (hcongr s _ rfl rfl hs))
  | expiry h hr he hx => exact hexpire s h hx hs
  | timeout u => exact htimeout s u hs
  | reset => exact hcongr State.reset _ rfl rfl hreset
  | release => exact hcongr s _ (by simp [State.resetRelease]) (by simp [State.resetRelease]) hs

end Sys2Proof.Machine

namespace Sys2Proof.Machine

/-! ## Live windows that are sound -/

/-- One live window as WindowsSound has it: sound, and with some of its lease left while ACTIVE. -/
abbrev SoundLive (w : Window) : Prop := WindowSound w ∧ (w.state = .active → w.leaseLimit ≠ 0 → 1 ≤ w.lease)

/-- The state of a window between its first and its last unit: neither SPENT nor FAILED (R11). -/
def WindowState.midway (st : WindowState) : Prop := st ≠ .spent ∧ st ≠ .failed

theorem soundLive_openedWindow {p : Words4} {d : DomainId} {i : SlotId} {x : Setting} (hx : SettingGiven p x)
    (hs : x.inSpace = true) (ha : x.aligned = true) : SoundLive (openedWindow d i x) := by
  obtain ⟨-, -, -, -, -, h1, h2, -, -, hl, -⟩ := hx
  refine ⟨⟨⟨h1, h2⟩, Nat.le_refl _, ?_, ?_, Nat.zero_le _, fun _ => rfl, ⟨Nat.le_refl _, hl⟩, by simp [openedWindow],
    fun _ => rfl, hs, ha⟩, by simp [openedWindow]⟩
  · simp only [openedWindow, reduceCtorEq, iff_false]
    omega
  · cases hst : x.step <;> simp [openedWindow, Window.addressFor, hst]

/-- A window moved to a state midway, with what fits that state in its channel field and its lease as it was or renewed. -/
theorem SoundLive.moved {w : Window} (h : SoundLive w) (hw : w.state.midway) {st : WindowState} (hst : st.midway)
    {c : Option ChannelId} (hc : st = .parked → c = none) {l : Nat} (hl : l = w.lease ∨ l = w.leaseLimit)
    (ha : st = .active → w.leaseLimit ≠ 0 → 1 ≤ l) : SoundLive { w with state := st, channel := c, lease := l } := by
  obtain ⟨⟨hcount, hle, hspent, haddr, hlaps, hrel, hlease, hfault, -, hspace, halign⟩, -⟩ := h
  have hll : l ≤ w.leaseLimit := by omega
  refine ⟨⟨hcount, hle, ?_, haddr, hlaps, hrel, ⟨hll, hlease.2⟩, ?_, ?_, hspace, halign⟩, ha⟩
  · simpa [hw.1, hst.1] using hspent
  · simpa [hw.2, hst.2] using hfault
  · rintro (rfl | hs | hf)
    · exact hc rfl
    · exact absurd hs hst.1
    · exact absurd hf hst.2

theorem SoundLive.parkedOff {w : Window} (h : SoundLive w) (hw : w.state.midway) : SoundLive w.parkedOff :=
  h.moved hw (by simp [WindowState.midway]) (fun _ => rfl) (.inl rfl) (by simp)

theorem SoundLive.drained {w : Window} (h : SoundLive w) (hw : w.state.midway) :
    SoundLive { w with state := .draining } :=
  h.moved hw (by simp [WindowState.midway]) (by simp) (.inl rfl) (by simp)

theorem SoundLive.renewed {w : Window} (h : SoundLive w) : SoundLive w.renewed := by
  obtain ⟨⟨hcount, hle, hspent, haddr, hlaps, hrel, hlease, hrest⟩, -⟩ := h
  exact ⟨⟨hcount, hle, hspent, haddr, hlaps, hrel, ⟨Nat.le_refl _, hlease.2⟩, hrest⟩,
    fun _ hl => Nat.one_le_iff_ne_zero.mpr hl⟩

theorem SoundLive.activated {w : Window} (h : SoundLive w) :
    SoundLive (if w.state = .linked then { w.renewed with state := .active } else w) := by
  split
  · next hw =>
    exact h.moved (by simp [hw, WindowState.midway]) (by simp [WindowState.midway]) (by simp) (.inr rfl)
      fun _ hl => Nat.one_le_iff_ne_zero.mpr hl
  · exact h

theorem SoundLive.bound {w : Window} (h : SoundLive w) (hw : w.state = .parked) (c : ChannelId) (b : Bool) :
    SoundLive (w.bound c b) := by
  have hm : w.state.midway := by simp [hw, WindowState.midway]
  cases b with
  | true =>
    exact h.moved hm (by simp [WindowState.midway]) (by simp) (.inr rfl) fun _ hl => Nat.one_le_iff_ne_zero.mpr hl
  | false => exact h.moved hm (by simp [WindowState.midway]) (by simp) (.inl rfl) (by simp)

theorem SoundLive.failedWith {w : Window} (h : SoundLive w) (hw : w.state.midway) (f : Failure) {l : Nat}
    (hl : l ≤ w.lease) : SoundLive { w.failedWith f with lease := l } := by
  obtain ⟨⟨hcount, hle, hspent, haddr, hlaps, hrel, hlease, -, -, hspace, halign⟩, -⟩ := h
  refine ⟨⟨hcount, hle, ?_, haddr, hlaps, hrel, ⟨Nat.le_trans hl hlease.1, hlease.2⟩, by simp [Window.failedWith],
    fun _ => rfl, hspace, halign⟩, by simp [Window.failedWith]⟩
  simpa [Window.failedWith, hw.1] using hspent

theorem SoundLive.lowered {w : Window} (h : SoundLive w) (hl : 2 ≤ w.lease) :
    SoundLive { w with lease := w.lease - 1 } := by
  obtain ⟨⟨hcount, hle, hspent, haddr, hlaps, hrel, hlease, hrest⟩, -⟩ := h
  have hlt := hlease.1
  exact ⟨⟨hcount, hle, hspent, haddr, hlaps, hrel, ⟨by dsimp only; omega, hlease.2⟩, hrest⟩,
    fun _ _ => by dsimp only; omega⟩

theorem address_at_base {w : Window} (ha : w.address = w.base) (hr : w.remaining = w.count) :
    w.address = w.addressFor := by
  rw [ha]
  cases hs : w.step <;> simp [Window.addressFor, hs, hr]

theorem SoundLive.rewound {w : Window} (h : SoundLive w) (hw : w.state.engaged = false) : SoundLive w.rewound := by
  obtain ⟨⟨hcount, -, -, -, -, -, hlease, -, hoff, hspace, halign⟩, -⟩ := h
  refine ⟨⟨hcount, Nat.le_refl _, ?_, address_at_base rfl rfl, Nat.zero_le _, fun _ => rfl, hlease,
    by simp [Window.rewound], fun _ => hoff ?_, hspace, halign⟩, by simp [Window.rewound]⟩
  · simp only [Window.rewound, reduceCtorEq, iff_false]
    omega
  · cases hs : w.state <;> simp [hs, WindowState.engaged] at hw ⊢

theorem SoundLive.amended {w : Window} (h : SoundLive w) {n t : Word} {x : Notify} (hx : NotifyGiven n t x) :
    SoundLive (w.amended x) := by
  obtain ⟨⟨hcount, hle, hspent, haddr, hlaps, hrel, -, hrest⟩, -⟩ := h
  exact ⟨⟨hcount, hle, hspent, haddr, hlaps, hrel, ⟨Nat.le_refl _, hx.2.1⟩, hrest⟩,
    fun _ hl => Nat.one_le_iff_ne_zero.mpr hl⟩

/-- The address after one unit is the one R4 gives for one unit fewer (R77). -/
theorem nextAddress_eq {w : Window} (ha : w.address = w.addressFor) (h1 : 1 ≤ w.remaining) (h2 : w.remaining ≤ w.count) :
    w.nextAddress = w.counted.addressFor := by
  have hn : (w.count - (w.remaining - 1)) * w.size.bytes = (w.count - w.remaining) * w.size.bytes + w.size.bytes := by
    rw [show w.count - (w.remaining - 1) = (w.count - w.remaining) + 1 by omega, Nat.succ_mul]
  unfold Window.nextAddress
  rw [ha]
  cases hs : w.step <;> simp only [Window.addressFor, Window.counted, hs, hn, BitVec.ofNat_add]
  · rw [BitVec.add_assoc]
  · rw [BitVec.sub_sub]

/-- One unit counted, in the state and with the channel field that follow (R77 to R79, R94). -/
theorem SoundLive.counted {w : Window} (h : SoundLive w) (hw : w.state.midway) {st : WindowState}
    (hst : st ≠ .failed) (hsp : w.remaining = 1 ↔ st = .spent) {c : Option ChannelId}
    (hc : st = .parked ∨ st = .spent → c = none) : SoundLive { w.counted with state := st, channel := c } := by
  obtain ⟨⟨hcount, hle, hspent, haddr, hlaps, hrel, hlease, hfault, -, hspace, halign⟩, -⟩ := h
  have hpos : w.remaining ≠ 0 := fun h0 => hw.1 (hspent.mp h0)
  refine ⟨⟨hcount, ?_, ?_, nextAddress_eq haddr (by omega) hle, hlaps, hrel, ⟨Nat.le_refl _, hlease.2⟩, ?_, ?_, hspace,
    halign⟩, fun _ hl => Nat.one_le_iff_ne_zero.mpr hl⟩
  · simp only [Window.counted]
    omega
  · rw [← hsp]
    simp only [Window.counted]
    omega
  · simpa [Window.counted, hw.2, hst] using hfault
  · rintro (h | h | h)
    · exact hc (.inl h)
    · exact hc (.inr h)
    · exact absurd h hst

/-- A window reloaded at its last unit (R5, R78, R94). -/
theorem SoundLive.reloaded {w : Window} (h : SoundLive w) (hw : w.state.midway) (hr : w.reload = true)
    {st : WindowState} (hst : st.midway) {c : Option ChannelId} (hc : st = .parked → c = none) :
    SoundLive { w.counted.reloaded with state := st, channel := c } := by
  obtain ⟨⟨hcount, hle, hspent, haddr, hlaps, -, hlease, hfault, -, hspace, halign⟩, -⟩ := h
  refine ⟨⟨hcount, Nat.le_refl _, ?_, address_at_base rfl rfl, Nat.min_le_right _ _, ?_, ⟨Nat.le_refl _, hlease.2⟩, ?_,
    ?_, hspace, halign⟩, fun _ hl => Nat.one_le_iff_ne_zero.mpr hl⟩
  · simp only [Window.reloaded, Window.counted, hst.1, iff_false]
    omega
  · simp [Window.reloaded, Window.counted, hr]
  · simpa [Window.reloaded, Window.counted, hw.2, hst.2] using hfault
  · rintro (h | h | h)
    · exact hc h
    · exact absurd h hst.1
    · exact absurd h hst.2

theorem exhausts_iff {w : Window} (h : w.remaining ≠ 0) : w.exhausts = true ↔ w.remaining = 1 := by
  simp only [Window.exhausts, beq_iff_eq]
  omega

theorem SoundLive.remaining_ne_zero {w : Window} (h : SoundLive w) (hw : w.state.midway) : w.remaining ≠ 0 := by
  obtain ⟨⟨-, -, hspent, -⟩, -⟩ := h
  exact fun h0 => hw.1 (hspent.mp h0)

theorem SoundLive.afterHeadOk {w : Window} (h : SoundLive w) (hw : w.state = .active) : SoundLive w.afterHeadOk := by
  have hm : w.state.midway := by simp [hw, WindowState.midway]
  have hx := exhausts_iff (h.remaining_ne_zero hm)
  unfold Window.afterHeadOk
  split
  · next he =>
    split
    · next hr => exact h.reloaded hm hr hm (by simp [hw])
    · exact h.counted hm (by simp) (by simp [hx.mp he]) (by simp)
  · next he => exact h.counted hm hm.2 (by simp [hw, ← hx, he]) (by simp [hw])

theorem SoundLive.afterDrainOk {w : Window} (h : SoundLive w) (hw : w.state = .draining) : SoundLive w.afterDrainOk := by
  have hm : w.state.midway := by simp [hw, WindowState.midway]
  have hx := exhausts_iff (h.remaining_ne_zero hm)
  unfold Window.afterDrainOk
  split
  · next he =>
    split
    · next hr => exact h.reloaded hm hr (by simp [WindowState.midway]) (fun _ => rfl)
    · exact h.counted hm (by simp) (by simp [hx.mp he]) (by simp)
  · next he => exact h.counted hm (by simp) (by simp [← hx, he]) (by simp)

end Sys2Proof.Machine

namespace Sys2Proof.Machine

/-! ## Every step keeps every live window sound -/

theorem WindowsSound.congr {s t : State} (hw : t.windows = s.windows) (hs : WindowsSound s) : WindowsSound t := by
  intro h w hwin
  refine hs h w ?_
  rwa [State.window, hw] at hwin

theorem WindowsSound.live {s : State} (hs : WindowsSound s) {h : Handle} {w : Window} (hw : s.window h = some w) :
    SoundLive w :=
  hs h w hw

theorem WindowsSound.setWindow {s : State} (hs : WindowsSound s) (h : Handle) {o : Option Window}
    (ho : ∀ w ∈ o, SoundLive w) : WindowsSound (s.setWindow h o) := by
  intro x w hw
  rw [State.setWindow_window] at hw
  split at hw
  · exact ho w hw
  · exact hs x w hw

theorem WindowsSound.updWindow {s : State} (hs : WindowsSound s) (h : Handle) {f : Window → Window}
    (hf : ∀ w ∈ s.window h, SoundLive w → SoundLive (f w)) : WindowsSound (s.updWindow h f) := by
  refine hs.setWindow h fun w hw => ?_
  obtain ⟨v, hv, rfl⟩ := Option.map_eq_some_iff.mp hw
  exact hf v hv (hs h v hv)

theorem WindowsSound.activateHead {s : State} (hs : WindowsSound s) (c : ChannelId) :
    WindowsSound (s.activateHead c) := by
  obtain ⟨-, h⟩ | ⟨x, -, -, h⟩ := activateHead_cases s c <;> rw [h]
  · exact hs
  · exact hs.updWindow x fun w _ hw => hw.activated

theorem WindowsSound.activateHead_updChannel {s : State} (hs : WindowsSound s) (c : ChannelId) (f : Channel → Channel) :
    WindowsSound ((s.updChannel c f).activateHead c) := by
  have hu : WindowsSound (s.updChannel c f) := hs.congr rfl
  exact hu.activateHead c

theorem WindowsSound.yield {s : State} (hs : WindowsSound s) (u : UnitRecord) : WindowsSound (s.yield u) := by
  have hh : WindowsSound (s.setHolder none) := hs.congr rfl
  exact (hh.activateHead u.channel).congr (by simp [State.yield])

theorem WindowsSound.freeWindow {s : State} (hs : WindowsSound s) (h : Handle) (w : Window) :
    WindowsSound (s.freeWindow h w) :=
  WindowsSound.congr (s := s.setWindow h none) (by simp [State.freeWindow]) (hs.setWindow h (by simp))

theorem WindowsSound.tornDownEnd {s : State} (hs : WindowsSound s) (u : UnitRecord) (w : Window) :
    WindowsSound (s.tornDownEnd u w) :=
  WindowsSound.congr (s := s.freeWindow u.window w) (by simp [State.tornDownEnd]) (hs.freeWindow _ w)

/-- What a completion OK of the ACTIVE head's unit makes of the records before the channel goes on or yields (R77 to R80). -/
def State.headCounted (s : State) (u : UnitRecord) (w : Window) : State :=
  let counted := s.updWindow u.window Window.afterHeadOk
  let unlinked := if w.exhausts && !w.reload then counted.unlink u.channel u.window else counted
  (unlinked.raise? u.window w.okCause).updChannel u.channel Channel.countedOk

theorem headOk_eq (s : State) (u : UnitRecord) (w : Window) :
    s.headOk u w =
      if goesOn (s.headCounted u w).arbiter.run ((s.headCounted u w).channel u.channel) w
      then (s.headCounted u w).issue u.channel else (s.headCounted u w).yield u := rfl

@[simp] theorem headCounted_windows (s : State) (u : UnitRecord) (w : Window) :
    (s.headCounted u w).windows = (s.updWindow u.window Window.afterHeadOk).windows := by
  unfold State.headCounted
  dsimp only
  split <;> simp

@[simp] theorem headCounted_domains (s : State) (u : UnitRecord) (w : Window) :
    (s.headCounted u w).domains = s.domains := by
  unfold State.headCounted
  dsimp only
  split <;> simp

theorem WindowsSound.headOk {s : State} (hs : WindowsSound s) {u : UnitRecord} {w : Window}
    (hw : s.window u.window = some w) (ha : w.state = .active) : WindowsSound (s.headOk u w) := by
  have hc : WindowsSound (s.updWindow u.window Window.afterHeadOk) :=
    hs.updWindow _ fun v hv h => h.afterHeadOk (by rw [hw] at hv; cases hv; exact ha)
  rw [headOk_eq]
  split
  · exact hc.congr (by simp)
  · exact (hc.congr (by simp)).yield u

theorem WindowsSound.drainOk {s : State} (hs : WindowsSound s) {u : UnitRecord} {w : Window}
    (hw : s.window u.window = some w) (hd : w.state = .draining) : WindowsSound (s.drainOk u w) := by
  have hc : WindowsSound (s.updWindow u.window Window.afterDrainOk) :=
    hs.updWindow _ fun v hv h => h.afterDrainOk (by rw [hw] at hv; cases hv; exact hd)
  exact (hc.congr (by simp)).yield u

theorem WindowsSound.fail {s : State} (hs : WindowsSound s) {h : Handle} {w : Window} (hw : s.window h = some w)
    (hm : w.state.midway) (f : Failure) : WindowsSound (s.updWindow h (Window.failedWith f)) :=
  hs.updWindow _ fun v hv hl => by
    rw [hw] at hv
    cases hv
    exact hl.failedWith hm f (Nat.le_refl _)

theorem WindowsSound.headFailed {s : State} (hs : WindowsSound s) {u : UnitRecord} {w : Window}
    (hw : s.window u.window = some w) (ha : w.state = .active) (f : Failure) : WindowsSound (s.headFailed u f) := by
  have hc := hs.fail hw (by simp [ha, WindowState.midway]) f
  unfold State.headFailed
  dsimp only
  split
  · exact (hc.congr (by simp)).yield u
  · exact hc.congr (by simp)

theorem WindowsSound.drainFailed {s : State} (hs : WindowsSound s) {u : UnitRecord} {w : Window}
    (hw : s.window u.window = some w) (hd : w.state = .draining) (f : Failure) : WindowsSound (s.drainFailed u f) :=
  ((hs.fail hw (by simp [hd, WindowState.midway]) f).congr (by simp)).yield u

theorem WindowsSound.unitOk {s : State} (hs : WindowsSound s) (u : UnitRecord) : WindowsSound (s.unitOk u) := by
  have hr : WindowsSound (s.setRecord none) := hs.congr rfl
  obtain ⟨-, h⟩ | ⟨w, hw, ⟨-, h⟩ | ⟨-, hd, h⟩ | ⟨-, ha, h⟩ | ⟨-, -, -, h⟩⟩ := unitOk_cases s u <;> rw [h]
  · exact hr.yield u
  · exact hr.tornDownEnd u w
  · exact hr.drainOk hw hd
  · exact hr.headOk hw ha
  · exact hr.yield u

theorem WindowsSound.unitFailed {s : State} (hs : WindowsSound s) (u : UnitRecord) (f : Failure) :
    WindowsSound (s.unitFailed u f) := by
  have hr : WindowsSound (s.setRecord none) := hs.congr rfl
  obtain ⟨-, h⟩ | ⟨w, hw, ⟨-, h⟩ | ⟨-, hd, h⟩ | ⟨-, ha, h⟩ | ⟨-, -, -, h⟩⟩ := unitFailed_cases s u f <;> rw [h]
  · exact hr.yield u
  · exact hr.tornDownEnd u w
  · exact hr.drainFailed hw hd f
  · exact hr.headFailed hw ha f
  · exact hr.yield u

/-- The raises of an expiry change no window record. -/
theorem foldl_raise_windows (hs : List Handle) (x : Cause) (s : State) :
    (hs.foldl (fun t h => t.raise h x) s).windows = s.windows := by
  induction hs generalizing s with
  | nil => rfl
  | cons h hs ih => rw [List.foldl_cons, ih, State.raise_windows]

theorem foldl_raise_domains (hs : List Handle) (x : Cause) (s : State) :
    (hs.foldl (fun t h => t.raise h x) s).domains = s.domains := by
  induction hs generalizing s with
  | nil => rfl
  | cons h hs ih => rw [List.foldl_cons, ih, State.raise_domains]

theorem expire_domains (s : State) (hs : List Handle) : (s.expire hs).domains = s.domains := by
  simp [State.expire, foldl_raise_domains]

/-- The windows of an expiry (R107, R109). -/
theorem expire_window (s : State) (hs : List Handle) (h : Handle) :
    (s.expire hs).window h = if h ∈ hs then (s.window h).map expiredWindow else s.window h := by
  unfold State.expire State.window
  rw [foldl_raise_windows, State.mapChannels_windows]
  simp only [State.mapWindows, getElem_ofFn_fin, List.contains_iff_mem]
  rfl

/-- The windows of a lease countdown (R106, R107). -/
theorem countdown_window (s : State) (h : Handle) :
    s.countdown.window h =
      if s.expires h = true then (s.window h).map expiredWindow
      else if s.leaseCounts h = true then (s.window h).map fun w => { w with lease := w.lease - 1 }
      else s.window h := by
  have hm : h ∈ handles.filter s.expires ↔ s.expires h = true := by simp [handles]
  unfold State.countdown
  rw [expire_window, State.mapWindows_window]
  by_cases he : s.expires h = true
  · simp [hm, he]
  · by_cases hl : s.leaseCounts h = true <;> simp [hm, he, hl]

theorem SoundLive.expired {w : Window} (h : SoundLive w) (hw : w.state = .active) : SoundLive (expiredWindow w) :=
  h.failedWith (by simp [hw, WindowState.midway]) .expired (Nat.zero_le _)

theorem expires_active {s : State} {h : Handle} {w : Window} (hx : s.expires h = true) (hw : s.window h = some w) :
    w.state = .active := by
  obtain ⟨v, hv, hr, -⟩ := expires_iff.mp hx
  rw [hw] at hv
  cases hv
  exact hr.1

theorem WindowsSound.expire {s : State} (hs : WindowsSound s) {h : Handle} (hx : s.expires h = true) :
    WindowsSound (s.expire [h]) := by
  intro x v hv
  rw [expire_window] at hv
  split at hv
  · next hm =>
    obtain ⟨w, hw, rfl⟩ := Option.map_eq_some_iff.mp hv
    rw [List.mem_singleton] at hm
    subst hm
    exact (hs.live hw).expired (expires_active hx hw)
  · exact hs x v hv

theorem WindowsSound.countdown {s : State} (hs : WindowsSound s) : WindowsSound s.countdown := by
  intro x v hv
  rw [countdown_window] at hv
  split at hv
  · next hx =>
    obtain ⟨w, hw, rfl⟩ := Option.map_eq_some_iff.mp hv
    exact (hs.live hw).expired (expires_active hx hw)
  · next hx =>
    split at hv
    · next hl =>
      obtain ⟨w, hw, rfl⟩ := Option.map_eq_some_iff.mp hv
      have h2 : 1 < w.lease := by simpa [State.expires, hl, hw] using hx
      exact (hs.live hw).lowered h2
    · exact hs x v hv

/-! ## The window commands and the windows -/

theorem liveWindow_mem {s : State} {t : BitVec 8} {h : Handle} {w : Window} (hl : s.liveWindow t = some (h, w)) :
    s.window h = some w :=
  (liveWindow_eq_some.mp hl).2

theorem moveNotice_windows (s : State) (h : Handle) (w : Window) (l : Option Level) :
    (s.moveNotice h w l).windows = s.windows := by
  unfold State.moveNotice
  split
  · rfl
  · split <;> simp

theorem moveNotice_domains (s : State) (h : Handle) (w : Window) (l : Option Level) :
    (s.moveNotice h w l).domains = s.domains := by
  unfold State.moveNotice
  split
  · rfl
  · split <;> simp

theorem raiseOverride_windows (s : State) (d : DomainId) (h : Handle) (w : Window) :
    (s.raiseOverride d h w).windows = s.windows := by
  unfold State.raiseOverride
  split <;> simp

theorem raiseOverride_domains (s : State) (d : DomainId) (h : Handle) (w : Window) :
    (s.raiseOverride d h w).domains = s.domains := by
  unfold State.raiseOverride
  split <;> simp

theorem openWindow_keeps_sound (d : DomainId) (t : BitVec 8) (s : State) (hs : WindowsSound s) :
    Keeps WindowsSound (openWindow d t s) := by
  unfold openWindow
  split
  · trivial
  · next x hx =>
    split
    · trivial
    · next hsp =>
      split
      · trivial
      · next hal =>
        split
        · trivial
        · split
          · trivial
          · split
            · trivial
            · refine WindowsSound.congr (s := s.setWindow _ _) rfl (hs.setWindow _ ?_)
              rintro w ⟨⟩
              exact soundLive_openedWindow (decodeSetting_eq_some.mp hx) (by simpa using hsp) (by simpa using hal)

theorem releaseWindow_keeps_sound (d : DomainId) (t : BitVec 8) (s : State) (hs : WindowsSound s) :
    Keeps WindowsSound (releaseWindow d t s) := by
  unfold releaseWindow
  split
  · trivial
  · split
    · trivial
    · split
      · trivial
      · split
        · trivial
        · next h w _ _ _ _ => exact (hs.freeWindow h w).congr rfl

theorem bindWindow_keeps_sound (d : DomainId) (t : BitVec 8) (s : State) (hs : WindowsSound s) :
    Keeps WindowsSound (bindWindow d t s) := by
  unfold bindWindow
  split
  · next h w c hl _ =>
    split
    · trivial
    · split
      · trivial
      · next hp =>
        have hb := (hs.live (liveWindow_mem hl)).bound (by simpa using hp) c (s.channel c).bindsActive
        have hset : WindowsSound (s.setWindow h (some (w.bound c (s.channel c).bindsActive))) :=
          hs.setWindow h (by rintro v ⟨⟩; exact hb)
        exact hset.congr (by simp)
  · trivial

theorem WindowsSound.revokeLinked {s : State} (hs : WindowsSound s) {h : Handle} {w : Window}
    (hw : s.window h = some w) (hm : w.state.midway) (c : ChannelId) : WindowsSound (s.revokeLinked h c) := by
  have hu : WindowsSound (s.updWindow h Window.parkedOff) := hs.updWindow h fun v hv hl => by
    rw [hw] at hv
    cases hv
    exact hl.parkedOff hm
  exact hu.congr rfl

theorem WindowsSound.startDrain {s : State} (hs : WindowsSound s) {h : Handle} {w : Window}
    (hw : s.window h = some w) (hm : w.state.midway) (c : ChannelId) : WindowsSound (s.startDrain h c) := by
  have hu : WindowsSound (s.updWindow h fun w => { w with state := .draining }) := hs.updWindow h fun v hv hl => by
    rw [hw] at hv
    cases hv
    exact hl.drained hm
  exact hu.congr rfl

theorem revokeWindow_keeps_sound (d : DomainId) (t : BitVec 8) (s : State) (hs : WindowsSound s) :
    Keeps WindowsSound (revokeWindow d t s) := by
  unfold revokeWindow
  split
  · trivial
  · next h w hl =>
    have hw := liveWindow_mem hl
    split
    · trivial
    · split
      · next c hst _ =>
        exact (hs.revokeLinked hw (by simp [hst, WindowState.midway]) c).congr (raiseOverride_windows _ _ _ _)
      · next c hst _ =>
        have hm : w.state.midway := by simp [hst, WindowState.midway]
        split
        · exact (hs.startDrain hw hm c).congr (raiseOverride_windows _ _ _ _)
        · refine WindowsSound.congr (raiseOverride_windows _ _ _ _) ?_
          exact WindowsSound.congr (s := (s.revokeLinked h c).activateHead c) rfl ((hs.revokeLinked hw hm c).activateHead c)
      · trivial

theorem rewindWindow_keeps_sound (d : DomainId) (t : BitVec 8) (s : State) (hs : WindowsSound s) :
    Keeps WindowsSound (rewindWindow d t s) := by
  unfold rewindWindow
  split
  · trivial
  · next h w hl =>
    split
    · trivial
    · split
      · trivial
      · next he =>
        refine hs.setWindow h ?_
        rintro v ⟨⟩
        exact (hs.live (liveWindow_mem hl)).rewound (by simpa using he)

theorem amendWindow_keeps_sound (d : DomainId) (t : BitVec 8) (s : State) (hs : WindowsSound s) :
    Keeps WindowsSound (amendWindow d t s) := by
  unfold amendWindow
  split
  · trivial
  · next h w hl =>
    split
    · trivial
    · split
      · trivial
      · next x hx =>
        split
        · trivial
        · refine (hs.congr (moveNotice_windows _ _ _ _)).setWindow h ?_
          rintro v ⟨⟩
          exact (hs.live (liveWindow_mem hl)).amended (decodeNotify_eq_some.mp hx)

theorem touchWindow_keeps_sound (d : DomainId) (t : BitVec 8) (s : State) (hs : WindowsSound s) :
    Keeps WindowsSound (touchWindow d t s) := by
  unfold touchWindow
  split
  · trivial
  · next h w hl =>
    split
    · trivial
    · refine hs.setWindow h ?_
      rintro v ⟨⟩
      exact (hs.live (liveWindow_mem hl)).renewed

theorem disableChannel_keeps_sound (d : DomainId) (t : BitVec 8) (s : State) (hs : WindowsSound s) :
    Keeps WindowsSound (disableChannel d t s) := by
  refine keeps_onChannel fun c => ?_
  split
  · trivial
  · exact hs.congr rfl
  · exact WindowsSound.activateHead_updChannel hs c _
  all_goals exact hs.congr rfl

/-- The windows of a cut chain (R45). -/
theorem SoundLive.cut {w : Window} (hw : SoundLive w) (s : State) (h : Handle) : SoundLive (s.cutWindow h w) := by
  unfold State.cutWindow
  split
  · next hs => exact hw.parkedOff (by simp [hs, WindowState.midway])
  · next hs =>
    split
    · exact hw.drained (by simp [hs, WindowState.midway])
    · exact hw.parkedOff (by simp [hs, WindowState.midway])
  · exact hw

theorem cutChainOf_window (s : State) (c : ChannelId) (h : Handle) :
    (s.cutChainOf c).window h =
      if h ∈ (s.channel c).chain then (s.window h).map (s.cutWindow h) else s.window h := by
  simp only [State.cutChainOf, State.updChannel_window, State.mapWindows_window, List.contains_iff_mem]

theorem WindowsSound.cutChainOf {s : State} (hs : WindowsSound s) (c : ChannelId) : WindowsSound (s.cutChainOf c) := by
  intro h v hv
  rw [cutChainOf_window] at hv
  split at hv
  · obtain ⟨w, hw, rfl⟩ := Option.map_eq_some_iff.mp hv
    exact (hs.live hw).cut s h
  · exact hs h v hv

theorem cutChain_keeps_sound (d : DomainId) (t : BitVec 8) (s : State) (hs : WindowsSound s) :
    Keeps WindowsSound (cutChain d t s) := by
  refine keeps_onChannel fun c => ?_
  dsimp only
  split <;> exact hs.cutChainOf c

theorem resumeChannel_keeps_sound (d : DomainId) (t : BitVec 8) (s : State) (hs : WindowsSound s) :
    Keeps WindowsSound (resumeChannel d t s) := by
  refine keeps_onChannel fun c => ?_
  split
  · trivial
  · have ha := hs.activateHead_updChannel c fun ch => { ch with stall := none }
    exact ha.congr (by simp)

/-! ## The start of a teardown -/

theorem beginTeardown_window (s : State) (ds : DomainId → Bool) (h : Handle) :
    (s.beginTeardown ds).window h = s.tornWindow ds h (s.window h) := getElem_ofFn_fin _ _

theorem beginTeardown_domain (s : State) (ds : DomainId → Bool) (d : DomainId) :
    (s.beginTeardown ds).domain d = if ds d then s.tornDomain d (s.domain d) else s.domain d := getElem_ofFn_fin _ _

/-- A window that is live at the start of a teardown is live before it: as it is now, or of a domain torn down, where it was
DRAINING or the ACTIVE head whose unit is in flight (R27, R100). -/
theorem tornWindow_eq_some {s : State} {ds : DomainId → Bool} {h : Handle} {o : Option Window} {v : Window}
    (hv : s.tornWindow ds h o = some v) :
    ∃ w, o = some w ∧ ((ds w.owner = false ∧ v = w) ∨
      (ds w.owner = true ∧ s.keptInTeardown h w = true ∧ v = { w with state := .draining })) := by
  unfold State.tornWindow at hv
  split at hv
  · cases hv
  · next w =>
    refine ⟨w, rfl, ?_⟩
    split at hv
    · next hd =>
      split at hv
      · next hk => exact .inr ⟨hd, hk, (Option.some.inj hv).symm⟩
      · cases hv
    · next hd => exact .inl ⟨by simpa using hd, (Option.some.inj hv).symm⟩

theorem midway_of_keptInTeardown {s : State} {h : Handle} {w : Window} (hk : s.keptInTeardown h w = true) :
    w.state.midway := by
  simp only [State.keptInTeardown, Bool.or_eq_true, Bool.and_eq_true, beq_iff_eq] at hk
  obtain hd | ⟨ha, -⟩ := hk
  · simp [hd, WindowState.midway]
  · simp [ha, WindowState.midway]

theorem WindowsSound.beginTeardown {s : State} (hs : WindowsSound s) (ds : DomainId → Bool) :
    WindowsSound (s.beginTeardown ds) := by
  intro h v hv
  rw [beginTeardown_window] at hv
  obtain ⟨w, hw, ⟨-, rfl⟩ | ⟨-, hk, rfl⟩⟩ := tornWindow_eq_some hv
  · exact hs h v hw
  · exact (hs.live hw).drained (midway_of_keptInTeardown hk)

theorem tearDown_keeps_sound {s : State} (hs : WindowsSound s) (ds : DomainId → Bool) (k : Nat → ChannelSet → Waiting) :
    Keeps WindowsSound (s.tearDown ds k) := by
  unfold State.tearDown
  dsimp only
  split
  · exact (hs.beginTeardown ds).congr (State.finishDomains_windows _)
  · exact hs.beginTeardown ds

theorem closeDomain_keeps_sound (d : DomainId) (t : BitVec 8) (s : State) (hs : WindowsSound s) :
    Keeps WindowsSound (closeDomain d t s) := by
  refine keeps_supervisor (keeps_onDomain fun x => ?_)
  split
  · trivial
  · exact tearDown_keeps_sound hs _ _

theorem masterClear_keeps_sound (d : DomainId) (t : BitVec 8) (s : State) (hs : WindowsSound s) :
    Keeps WindowsSound (masterClear d t s) := by
  have hr : WindowsSound { s with arbiter := { s.arbiter with run := .run } } := hs.congr rfl
  exact keeps_supervisor (tearDown_keeps_sound hr _ _)

/-! ## The domain and range commands change no window -/

theorem Keeps.of_within {P : State → Prop} {x : Completion} {s : State} {l : List Block} (hx : Within x s l)
    (h : ∀ t, Frame s t l → P t) : Keeps P x := by
  cases x with
  | done t r => exact h t hx
  | refused o => trivial
  | waits t y => exact h t hx

theorem Frame.updDomain (s : State) (d : DomainId) (f : Domain → Domain) : Frame s (s.updDomain d f) [.domains] := by
  intro b hb
  cases b <;> first | rfl | exact absurd (by simp) hb

theorem within_onDomain {s : State} {t : BitVec 8} {k : DomainId → Completion} {l : List Block}
    (h : ∀ x, Within (k x) s l) : Within (onDomain t k) s l := by
  unfold onDomain
  split
  · trivial
  · exact h _

theorem within_onSlot {s : State} {w : Word} {k : SlotId → Completion} {l : List Block}
    (h : ∀ i, Within (k i) s l) : Within (onSlot w k) s l := by
  unfold onSlot
  split
  · trivial
  · exact h _

theorem openDomain_within (d : DomainId) (t : BitVec 8) (s : State) : Within (openDomain d t s) s [.domains] := by
  refine within_supervisor (within_onDomain fun x => ?_)
  dsimp only
  split
  · trivial
  · split
    · trivial
    · exact Frame.updDomain s x _

theorem setQuota_within (d : DomainId) (t : BitVec 8) (s : State) : Within (setQuota d t s) s [.domains] := by
  refine within_supervisor (within_onDomain fun x => ?_)
  dsimp only
  split
  · trivial
  · split
    · trivial
    · split
      · trivial
      · exact Frame.updDomain s x _

theorem setRange_within (d : DomainId) (t : BitVec 8) (s : State) : Within (setRange d t s) s [.domains] := by
  refine within_supervisor (within_onDomain fun x => within_onSlot fun i => ?_)
  dsimp only
  split
  · trivial
  · split
    · trivial
    · split
      · trivial
      · exact Frame.updDomain s x _

theorem clearRange_within (d : DomainId) (t : BitVec 8) (s : State) : Within (clearRange d t s) s [.domains] := by
  refine within_supervisor (within_onDomain fun x => within_onSlot fun i => ?_)
  split
  · trivial
  · split
    · trivial
    · exact Frame.updDomain s x _

theorem keeps_sound_of_within_domains {x : Completion} {s : State} (hx : Within x s [.domains]) (hs : WindowsSound s) :
    Keeps WindowsSound x :=
  Keeps.of_within hx fun _ ht => hs.congr (ht .windows (by simp))

/-- Every command that may change a window or a domain record keeps the windows sound. -/
theorem recordCommands_keep_sound :
    ∀ f ∈ recordCommands, ∀ d t s, WindowsSound s → Keeps WindowsSound (f d t s) := by
  simp only [recordCommands, List.mem_cons, List.not_mem_nil, or_false, forall_eq_or_imp, forall_eq]
  exact ⟨openWindow_keeps_sound, releaseWindow_keeps_sound, bindWindow_keeps_sound, revokeWindow_keeps_sound,
    rewindWindow_keeps_sound, amendWindow_keeps_sound, touchWindow_keeps_sound, disableChannel_keeps_sound,
    cutChain_keeps_sound, resumeChannel_keeps_sound,
    fun d t s => keeps_sound_of_within_domains (openDomain_within d t s), closeDomain_keeps_sound,
    fun d t s => keeps_sound_of_within_domains (setQuota_within d t s),
    fun d t s => keeps_sound_of_within_domains (setRange_within d t s),
    fun d t s => keeps_sound_of_within_domains (clearRange_within d t s), masterClear_keeps_sound⟩

end Sys2Proof.Machine

namespace Sys2Proof.Proofs

open Sys2Proof.Machine

/-- Settles O53, through what each shared operation does with one window record. -/
theorem windowsSoundKept : Obligations.WindowsSoundKept :=
  keptByStep_of_records (fun _ _ hw _ hs => hs.congr hw) recordCommands_keep_sound (fun _ u hs => hs.unitOk u)
    (fun _ u f hs => hs.unitFailed u f) (fun _ hs => hs.countdown) (fun _ _ hx hs => hs.expire hx)
    (by simp [WindowsSound, State.reset, State.window])

end Sys2Proof.Proofs

namespace Sys2Proof.Machine

/-! ## What the held and homes counts and the home ranges depend on -/

/-- The fields of a window that the counts and its home range depend on: owner, home slot and extent with direction. -/
def Window.place (w : Window) : (DomainId × SlotId) × Address × UnitSize × AddressStep × Direction × Nat :=
  ((w.owner, w.home), w.base, w.size, w.step, w.direction, w.count)

/-- Every handle holds a window of the same place in both states, or none in both. -/
def SamePlaces (s t : State) : Prop := ∀ h : Handle, (t.window h).map Window.place = (s.window h).map Window.place

theorem SamePlaces.refl_of_windows {s t : State} (h : t.windows = s.windows) : SamePlaces s t := fun x => by
  rw [State.window, h]
  rfl

theorem SamePlaces.trans {s t v : State} (h : SamePlaces s t) (g : SamePlaces t v) : SamePlaces s v :=
  fun x => (g x).trans (h x)

theorem SamePlaces.congr {s t v : State} (h : SamePlaces s t) (hv : v.windows = t.windows) : SamePlaces s v :=
  h.trans (.refl_of_windows hv)

theorem SamePlaces.setWindow {s : State} {h : Handle} {w v : Window} (hw : s.window h = some w)
    (hp : v.place = w.place) : SamePlaces s (s.setWindow h (some v)) := fun x => by
  rw [State.setWindow_window]
  split
  · next hx => simp [hx, hw, hp]
  · rfl

theorem SamePlaces.of_map {s t : State} {f : Handle → Window → Window} (hf : ∀ h w, (f h w).place = w.place)
    (ht : ∀ h, t.window h = s.window h ∨ t.window h = (s.window h).map (f h)) : SamePlaces s t := fun x => by
  obtain h | h := ht x <;> rw [h]
  rw [Option.map_map]
  exact Option.map_congr fun w _ => hf x w

theorem SamePlaces.updWindow (s : State) (h : Handle) {f : Window → Window} (hf : ∀ w, (f w).place = w.place) :
    SamePlaces s (s.updWindow h f) :=
  .of_map (f := fun _ => f) (fun _ => hf) fun x => by
    rw [State.updWindow_window]
    split
    · next hx => exact .inr (by rw [hx])
    · exact .inl rfl

theorem qualifies_congr {v w : Window} (h : v.place = w.place) (r : RangeSlot) :
    r.qualifies v.setting = r.qualifies w.setting := by
  cases v
  cases w
  simp only [Window.place, Prod.mk.injEq] at h
  obtain ⟨-, rfl, rfl, rfl, rfl, rfl⟩ := h
  rfl

theorem any_place {o o' : Option Window} (h : o'.map Window.place = o.map Window.place) (p : DomainId × SlotId → Bool) :
    (o'.any fun w => p (w.owner, w.home)) = o.any fun w => p (w.owner, w.home) := by
  have hp : ∀ q : Option Window, (q.any fun w => p (w.owner, w.home)) = (q.map Window.place).any fun x => p x.1 := by
    rintro (_ | w) <;> rfl
  rw [hp, hp, h]

theorem SamePlaces.ownedWindows {s t : State} (h : SamePlaces s t) (d : DomainId) :
    t.ownedWindows d = s.ownedWindows d :=
  congrArg (List.filter · handles) (funext fun x => any_place (h x) fun q => q.1 == d)

theorem SamePlaces.homedWindows {s t : State} (h : SamePlaces s t) (d : DomainId) (i : SlotId) :
    t.homedWindows d i = s.homedWindows d i :=
  congrArg (List.filter · handles) (funext fun x => any_place (h x) fun q => q.1 == d && q.2 == i)

theorem mem_ownedWindows {s : State} {d : DomainId} {h : Handle} :
    h ∈ s.ownedWindows d ↔ ∃ w, s.window h = some w ∧ w.owner = d := by
  simp [State.ownedWindows, handles, Option.any_eq_true]

theorem mem_homedWindows {s : State} {d : DomainId} {i : SlotId} {h : Handle} :
    h ∈ s.homedWindows d i ↔ ∃ w, s.window h = some w ∧ w.owner = d ∧ w.home = i := by
  simp [State.homedWindows, handles, Option.any_eq_true]

theorem nodup_ownedWindows (s : State) (d : DomainId) : (s.ownedWindows d).Nodup :=
  (List.nodup_finRange 64).filter _

theorem nodup_homedWindows (s : State) (d : DomainId) (i : SlotId) : (s.homedWindows d i).Nodup :=
  (List.nodup_finRange 64).filter _

/-- The two invariants on the held and homes counts and the home ranges. -/
abbrev CountsHomed (s : State) : Prop := CountsAgree s ∧ WindowsHomed s

/-- A change that leaves every window in its place, and every held count and slot as it was, keeps the counts. -/
theorem CountsHomed.of_samePlaces {s t : State} (hs : CountsHomed s) (hp : SamePlaces s t)
    (hd : ∀ d, (t.domain d).held = (s.domain d).held ∧ (t.domain d).slots = (s.domain d).slots) : CountsHomed t := by
  refine ⟨fun d => ?_, fun h w hw => ?_⟩
  · rw [(hd d).1, (hd d).2, hp.ownedWindows]
    refine ⟨(hs.1 d).1, fun i => ?_⟩
    rw [hp.homedWindows]
    exact (hs.1 d).2 i
  · have hx := hp h
    rw [hw] at hx
    obtain ⟨v, hv, hvw⟩ := Option.map_eq_some_iff.mp hx.symm
    obtain ⟨r, hr, hq⟩ := hs.2 h v hv
    have hplace : v.owner = w.owner ∧ v.home = w.home := by
      simp only [Window.place, Prod.mk.injEq] at hvw
      exact hvw.1
    simp only [hplace.1, hplace.2] at hr
    refine ⟨r, ?_, by rw [← hq, qualifies_congr hvw]⟩
    simpa only [(hd w.owner).2] using hr

theorem CountsHomed.of_places_domains {s t : State} (hs : CountsHomed s) (hp : SamePlaces s t)
    (hd : t.domains = s.domains) : CountsHomed t :=
  hs.of_samePlaces hp fun d => by simp only [State.domain, hd, and_self]

/-- A slot that is some window's home is present, and its homes count is not 0 (R142). -/
theorem CountsHomed.home_present {s : State} (hs : CountsHomed s) {h : Handle} {w : Window} (hw : s.window h = some w) :
    ∃ r, (s.domain w.owner).slots[w.home] = some r ∧ r.qualifies w.setting = true ∧
      r.homes = (s.homedWindows w.owner w.home).length := by
  obtain ⟨r, hr, hq⟩ := hs.2 h w hw
  have hc := (hs.1 w.owner).2 w.home
  rw [Option.mem_def] at hr
  rw [hr] at hc
  exact ⟨r, hr, hq, hc⟩

/-! ## A window more and a window fewer -/

/-- A list of handles that gains one of them. -/
theorem length_of_gains {l m : List Handle} (hl : l.Nodup) (hm : m.Nodup) {h : Handle} (hn : h ∉ l)
    (hx : ∀ x, x ∈ m ↔ x = h ∨ x ∈ l) : m.length = l.length + 1 := by
  have hp : m.Perm (h :: l) :=
    (List.perm_ext_iff_of_nodup hm (List.nodup_cons.mpr ⟨hn, hl⟩)).mpr fun x => by rw [hx, List.mem_cons]
  rw [hp.length_eq, List.length_cons]

/-- The state `t` has the windows of `s` and this one at a handle FREE in `s`. -/
def GainsWindow (s t : State) (h : Handle) (w : Window) : Prop :=
  s.window h = none ∧ t.window h = some w ∧ OnlyWindow s t h

theorem GainsWindow.mem_owned {s t : State} {h : Handle} {w : Window} (hg : GainsWindow s t h w) (d : DomainId)
    (x : Handle) : x ∈ t.ownedWindows d ↔ (x = h ∧ w.owner = d) ∨ x ∈ s.ownedWindows d := by
  obtain ⟨hn, hw, ho⟩ := hg
  rw [mem_ownedWindows, mem_ownedWindows]
  by_cases hx : x = h
  · subst hx
    simp [hn, hw]
  · simp [ho x hx, hx]

theorem GainsWindow.mem_homed {s t : State} {h : Handle} {w : Window} (hg : GainsWindow s t h w) (d : DomainId)
    (i : SlotId) (x : Handle) :
    x ∈ t.homedWindows d i ↔ (x = h ∧ w.owner = d ∧ w.home = i) ∨ x ∈ s.homedWindows d i := by
  obtain ⟨hn, hw, ho⟩ := hg
  rw [mem_homedWindows, mem_homedWindows]
  by_cases hx : x = h
  · subst hx
    simp [hn, hw]
  · simp [ho x hx, hx]

/-- One window more of its owner. -/
theorem GainsWindow.length_owned {s t : State} {h : Handle} {w : Window} (hg : GainsWindow s t h w) (d : DomainId) :
    (t.ownedWindows d).length = (s.ownedWindows d).length + if d = w.owner then 1 else 0 := by
  split
  · next hd =>
    refine length_of_gains (nodup_ownedWindows s d) (nodup_ownedWindows t d) (h := h) ?_ fun x => ?_
    · simp [mem_ownedWindows, hg.1]
    · simp [hg.mem_owned, hd]
  · next hd =>
    refine congrArg List.length (List.filter_congr fun x _ => Bool.eq_iff_iff.mpr ?_)
    simpa [mem_ownedWindows, Option.any_eq_true, Ne.symm hd] using hg.mem_owned d x

/-- One window more homed in its slot. -/
theorem GainsWindow.length_homed {s t : State} {h : Handle} {w : Window} (hg : GainsWindow s t h w) (d : DomainId)
    (i : SlotId) :
    (t.homedWindows d i).length = (s.homedWindows d i).length + if d = w.owner ∧ i = w.home then 1 else 0 := by
  split
  · next hd =>
    refine length_of_gains (nodup_homedWindows s d i) (nodup_homedWindows t d i) (h := h) ?_ fun x => ?_
    · simp [mem_homedWindows, hg.1]
    · simp [hg.mem_homed, hd]
  · next hd =>
    have hd' : ¬ (w.owner = d ∧ w.home = i) := fun hh => hd ⟨hh.1.symm, hh.2.symm⟩
    refine congrArg List.length (List.filter_congr fun x _ => Bool.eq_iff_iff.mpr ?_)
    simpa [mem_homedWindows, Option.any_eq_true, hd'] using hg.mem_homed d i x

/-- A domain record with one window more or fewer, homed in a slot, its other slots as they were. -/
structure CountsMove (x y : Domain) (i : SlotId) (r r' : Option RangeSlot) (held : Nat) : Prop where
  held : y.held = held
  before : x.slots[i] = r
  after : y.slots[i] = r'
  others : ∀ j : SlotId, j ≠ i → y.slots[j] = x.slots[j]

/-- A new window, homed in a qualifying slot and counted there and in its owner's held count (R16, R142, R143). -/
theorem CountsHomed.gains {s t : State} (hs : CountsHomed s) {h : Handle} {w : Window} (hg : GainsWindow s t h w)
    {r : RangeSlot} (hq : r.qualifies w.setting = true)
    (hm : CountsMove (s.domain w.owner) (t.domain w.owner) w.home (some r) (some { r with homes := r.homes + 1 })
      ((s.domain w.owner).held + 1)) (ho : OnlyDomain s t w.owner) : CountsHomed t := by
  have hslot : ∀ d i, (t.domain d).slots[i] =
      if d = w.owner ∧ i = w.home then some { r with homes := r.homes + 1 } else (s.domain d).slots[i] := by
    intro d i
    by_cases hd : d = w.owner
    · subst hd
      by_cases hi : i = w.home
      · subst hi
        simp [hm.after]
      · simp only [hi, and_false, if_false, hm.others i hi]
    · rw [ho d hd, if_neg fun hh => hd hh.1]
  refine ⟨fun d => ⟨?_, fun i => ?_⟩, fun x v hv => ?_⟩
  · rw [hg.length_owned, ← (hs.1 d).1]
    by_cases hd : d = w.owner
    · subst hd
      simp [hm.held]
    · simp [hd, ho d hd]
  · rw [hg.length_homed, ← (hs.1 d).2 i, hslot]
    by_cases hd : d = w.owner ∧ i = w.home
    · obtain ⟨rfl, rfl⟩ := hd
      simp [hm.before]
    · simp [hd]
  · by_cases hx : x = h
    · subst hx
      rw [Option.mem_def, hg.2.1] at hv
      cases hv
      exact ⟨_, hm.after, hq⟩
    · rw [hg.2.2 x hx] at hv
      obtain ⟨q, hqs, hqq⟩ := hs.2 x v hv
      rw [Option.mem_def] at hqs
      by_cases hd : v.owner = w.owner ∧ v.home = w.home
      · refine ⟨_, by rw [hslot, if_pos hd]; rfl, ?_⟩
        simp only [hd.1, hd.2, hm.before] at hqs
        cases hqs
        exact hqq
      · exact ⟨q, by rw [hslot, if_neg hd]; exact hqs, hqq⟩

/-- A window freed, its slot and its owner's held count one fewer; the slot may become absent with its last home (R17, R101,
R142, R143, R154). -/
theorem CountsHomed.loses {s t : State} (hs : CountsHomed s) {h : Handle} {w : Window} (hg : GainsWindow t s h w)
    {r : RangeSlot} {r' : Option RangeSlot} (hr : r' = some { r with homes := r.homes - 1 } ∨ (r' = none ∧ r.homes ≤ 1))
    (hm : CountsMove (s.domain w.owner) (t.domain w.owner) w.home (some r) r' ((s.domain w.owner).held - 1))
    (ho : OnlyDomain s t w.owner) : CountsHomed t := by
  have hslot : ∀ d i, (t.domain d).slots[i] = if d = w.owner ∧ i = w.home then r' else (s.domain d).slots[i] := by
    intro d i
    by_cases hd : d = w.owner
    · subst hd
      by_cases hi : i = w.home
      · subst hi
        simp [hm.after]
      · simp only [hi, and_false, if_false, hm.others i hi]
    · rw [ho d hd, if_neg fun hh => hd hh.1]
  have hhomes : r.homes = (t.homedWindows w.owner w.home).length + 1 := by
    have hc := (hs.1 w.owner).2 w.home
    rw [hm.before, hg.length_homed] at hc
    simpa using hc
  refine ⟨fun d => ⟨?_, fun i => ?_⟩, fun x v hv => ?_⟩
  · have hc := (hs.1 d).1
    rw [hg.length_owned] at hc
    by_cases hd : d = w.owner
    · subst hd
      rw [if_pos rfl] at hc
      rw [hm.held, hc, Nat.add_sub_cancel]
    · simpa [hd, ho d hd] using hc
  · rw [hslot]
    by_cases hd : d = w.owner ∧ i = w.home
    · obtain ⟨rfl, rfl⟩ := hd
      rw [if_pos ⟨rfl, rfl⟩]
      obtain rfl | ⟨rfl, hle⟩ := hr
      · simp [hhomes]
      · simp only [Option.elim_none]
        omega
    · rw [if_neg hd]
      have hc := (hs.1 d).2 i
      rw [hg.length_homed, if_neg hd] at hc
      exact hc
  · have hx : x ≠ h := by
      rintro rfl
      rw [Option.mem_def, hg.1] at hv
      cases hv
    have hvs : s.window x = some v := by rw [hg.2.2 x hx]; exact hv
    obtain ⟨q, hqs, hqq⟩ := hs.2 x v hvs
    rw [Option.mem_def] at hqs
    by_cases hd : v.owner = w.owner ∧ v.home = w.home
    · simp only [hd.1, hd.2, hm.before] at hqs
      cases hqs
      have hpos : 0 < (t.homedWindows w.owner w.home).length :=
        List.length_pos_of_mem (mem_homedWindows.mpr ⟨v, hv, hd⟩)
      obtain rfl | ⟨-, hle⟩ := hr
      · exact ⟨{ r with homes := r.homes - 1 }, by rw [hslot, if_pos hd]; rfl, hqq⟩
      · omega
    · exact ⟨q, by rw [hslot, if_neg hd]; exact hqs, hqq⟩

/-- A slot that is no window's home is replaced by one without a home (R146, R147). -/
theorem CountsHomed.setSlot {s : State} (hs : CountsHomed s) {d : DomainId} {i : SlotId} {o : Option RangeSlot}
    (hfree : ((s.domain d).slots[i]).elim 0 (fun r => r.homes) = 0) (ho : o.elim 0 (fun r => r.homes) = 0) :
    CountsHomed (s.updDomain d fun y => { y with slots := y.slots.set i o }) := by
  have hslot : ∀ e j, ((s.updDomain d fun y => { y with slots := y.slots.set i o }).domain e).slots[j] =
      if e = d ∧ j = i then o else (s.domain e).slots[j] := by
    intro e j
    rw [State.updDomain_domain]
    by_cases he : e = d
    · subst he
      simp only [if_true, true_and]
      exact getElem_set_fin _ _ _ _
    · simp [he]
  have hnone : (s.homedWindows d i).length = 0 := by rw [← (hs.1 d).2 i, hfree]
  refine ⟨fun e => ⟨?_, fun j => ?_⟩, fun x v hv => ?_⟩
  · rw [State.updDomain_domain]
    split
    · next he => subst he; exact (hs.1 e).1
    · exact (hs.1 e).1
  · rw [hslot]
    split
    · next he => rw [he.1, he.2, ho]; exact hnone.symm
    · exact (hs.1 e).2 j
  · obtain ⟨q, hqs, hqq⟩ := hs.2 x v hv
    refine ⟨q, ?_, hqq⟩
    rw [hslot, if_neg]
    · exact hqs
    · rintro ⟨rfl, rfl⟩
      have := List.length_pos_of_mem ((mem_homedWindows (s := s)).mpr ⟨v, hv, rfl, rfl⟩)
      omega

end Sys2Proof.Machine

namespace Sys2Proof.Machine

/-! ## The start of a teardown and the counts -/

/-- The window is live and one that the start of its domain's teardown keeps (R100). -/
def State.keptHandle (s : State) (h : Handle) : Bool := (s.window h).any fun w => s.keptInTeardown h w

theorem beginTeardown_live {s : State} {ds : DomainId → Bool} {h : Handle} {v : Window} :
    (s.beginTeardown ds).window h = some v ↔
      ∃ w, s.window h = some w ∧ ((ds w.owner = false ∧ v = w) ∨
        (ds w.owner = true ∧ s.keptInTeardown h w = true ∧ v = { w with state := .draining })) := by
  rw [beginTeardown_window]
  refine ⟨tornWindow_eq_some, ?_⟩
  rintro ⟨w, hw, ⟨hd, rfl⟩ | ⟨hd, hk, rfl⟩⟩ <;> simp [State.tornWindow, *]

/-- A window that a teardown keeps stays in its place. -/
theorem beginTeardown_place {s : State} {ds : DomainId → Bool} {h : Handle} {v : Window}
    (hv : (s.beginTeardown ds).window h = some v) : ∃ w, s.window h = some w ∧ v.place = w.place := by
  obtain ⟨w, hw, ⟨-, rfl⟩ | ⟨-, -, rfl⟩⟩ := beginTeardown_live.mp hv <;> exact ⟨_, hw, rfl⟩

/-- The windows of a domain after the start of a teardown: with its own teardown those that are kept, otherwise all. -/
theorem beginTeardown_ownedWindows (s : State) (ds : DomainId → Bool) (d : DomainId) :
    (s.beginTeardown ds).ownedWindows d = (s.ownedWindows d).filter fun h => !ds d || s.keptHandle h := by
  rw [State.ownedWindows, State.ownedWindows, List.filter_filter]
  refine List.filter_congr fun h _ => Bool.eq_iff_iff.mpr ?_
  simp only [Option.any_eq_true, beginTeardown_live, State.keptHandle, Bool.and_eq_true, Bool.or_eq_true,
    Bool.not_eq_true', beq_iff_eq]
  cases hw : s.window h with
  | none => simp
  | some w => cases hd : ds d <;> aesop

theorem beginTeardown_homedWindows (s : State) (ds : DomainId → Bool) (d : DomainId) (i : SlotId) :
    (s.beginTeardown ds).homedWindows d i = (s.homedWindows d i).filter fun h => !ds d || s.keptHandle h := by
  rw [State.homedWindows, State.homedWindows, List.filter_filter]
  refine List.filter_congr fun h _ => Bool.eq_iff_iff.mpr ?_
  simp only [Option.any_eq_true, beginTeardown_live, State.keptHandle, Bool.and_eq_true, Bool.or_eq_true,
    Bool.not_eq_true', beq_iff_eq]
  cases hw : s.window h with
  | none => simp
  | some w => cases hd : ds d <;> aesop

theorem ownedWindows_live {s : State} {d : DomainId} {h : Handle} (hm : h ∈ s.ownedWindows d) :
    (s.window h).isSome = true := by
  obtain ⟨w, hw, -⟩ := mem_ownedWindows.mp hm
  simp [hw]

theorem homedWindows_live {s : State} {d : DomainId} {i : SlotId} {h : Handle} (hm : h ∈ s.homedWindows d i) :
    (s.window h).isSome = true := by
  obtain ⟨w, hw, -⟩ := mem_homedWindows.mp hm
  simp [hw]

/-- Of live windows, those that a teardown does not free at once are those it keeps. -/
theorem length_sub_freed {s : State} {l : List Handle} (hl : ∀ h ∈ l, (s.window h).isSome = true) :
    l.length - (l.filter fun h => (s.window h).any fun w => !s.keptInTeardown h w).length =
      (l.filter s.keptHandle).length := by
  have hf : (l.filter fun h => (s.window h).any fun w => !s.keptInTeardown h w) = l.filter fun h => !s.keptHandle h := by
    refine List.filter_congr fun h hm => ?_
    obtain ⟨w, hw⟩ := Option.isSome_iff_exists.mp (hl h hm)
    simp [State.keptHandle, hw]
  have hp := l.length_eq_length_filter_add s.keptHandle
  rw [hf]
  omega

/-- The windows freed at once of those homed in a slot. -/
theorem freedAtOnce_homed (s : State) (d : DomainId) (i : SlotId) :
    ((s.freedAtOnce d).filter fun h => (s.window h).any fun w => w.home == i) =
      (s.homedWindows d i).filter fun h => (s.window h).any fun w => !s.keptInTeardown h w := by
  simp only [State.freedAtOnce, State.ownedWindows, State.homedWindows, List.filter_filter]
  refine List.filter_congr fun h _ => ?_
  cases hw : s.window h with
  | none => rfl
  | some w =>
    simp only [Option.any_some]
    cases w.home == i <;> cases w.owner == d <;> simp

/-- The held count at the start of a domain's teardown is the number of windows kept (R152). -/
theorem tornDomain_held {s : State} (hc : CountsAgree s) (d : DomainId) :
    (s.tornDomain d (s.domain d)).held = ((s.ownedWindows d).filter s.keptHandle).length := by
  show (s.domain d).held - (s.freedAtOnce d).length = _
  rw [(hc d).1, State.freedAtOnce, length_sub_freed fun h => ownedWindows_live]

/-- A slot at the start of a domain's teardown: its homes count is the number of windows kept there, and without one a slot
of domains 1 to 3 becomes absent (R152, R156). -/
theorem tornDomain_slot {s : State} (hc : CountsAgree s) (d : DomainId) (i : SlotId) :
    (s.tornDomain d (s.domain d)).slots[i] =
      ((s.domain d).slots[i]).bind fun r =>
        emptyUnused d { r with homes := ((s.homedWindows d i).filter s.keptHandle).length } := by
  have hs := getElem_ofFn_fin (fun i : SlotId =>
    match (s.domain d).slots[i] with
    | none => none
    | some r => emptyUnused d (r.lessHomes
        ((s.freedAtOnce d).filter fun h => (s.window h).any fun (w : Window) => w.home == i).length)) i
  refine hs.trans ?_
  have hh := (hc d).2 i
  cases hr : (s.domain d).slots[i] with
  | none => rfl
  | some r =>
    rw [hr] at hh
    simp only [Option.bind_some, RangeSlot.lessHomes, freedAtOnce_homed]
    rw [← length_sub_freed fun h => homedWindows_live, ← hh]
    rfl

theorem emptyUnused_eq_some {d : DomainId} {r : RangeSlot} (h : d = 0 ∨ 0 < r.homes) : emptyUnused d r = some r := by
  unfold emptyUnused
  split
  · next hh => exact absurd h (by simp [hh])
  · rfl

theorem emptyUnused_homes (d : DomainId) (r : RangeSlot) : (emptyUnused d r).elim 0 (fun x => x.homes) = r.homes := by
  unfold emptyUnused
  split
  · next hh => exact hh.2.symm
  · rfl

theorem CountsHomed.beginTeardown {s : State} (hs : CountsHomed s) (ds : DomainId → Bool) :
    CountsHomed (s.beginTeardown ds) := by
  refine ⟨fun d => ?_, fun h v hv => ?_⟩
  · rw [beginTeardown_domain, beginTeardown_ownedWindows]
    cases hd : ds d with
    | false =>
      simp only [Bool.not_false, Bool.true_or, List.filter_true, Bool.false_eq_true, if_false]
      refine ⟨(hs.1 d).1, fun i => ?_⟩
      rw [beginTeardown_homedWindows, hd]
      simpa using (hs.1 d).2 i
    | true =>
      simp only [Bool.not_true, Bool.false_or, if_true]
      refine ⟨tornDomain_held hs.1 d, fun i => ?_⟩
      rw [tornDomain_slot hs.1, beginTeardown_homedWindows, hd]
      have hh := (hs.1 d).2 i
      cases hr : (s.domain d).slots[i] with
      | none =>
        rw [hr, Option.elim_none, eq_comm, List.length_eq_zero_iff] at hh
        simp [hh]
      | some r => simp [emptyUnused_homes]
  · obtain ⟨w, hw, hp⟩ := beginTeardown_place hv
    obtain ⟨r, hr, hq, -⟩ := hs.home_present hw
    have hplace : v.owner = w.owner ∧ v.home = w.home := by
      simp only [Window.place, Prod.mk.injEq] at hp
      exact hp.1
    have hmem : h ∈ (s.beginTeardown ds).homedWindows w.owner w.home := mem_homedWindows.mpr ⟨v, hv, hplace⟩
    rw [← qualifies_congr hp] at hq
    rw [beginTeardown_domain, hplace.1]
    simp only [hplace.2]
    cases hd : ds w.owner with
    | false => exact ⟨r, hr, hq⟩
    | true =>
      rw [beginTeardown_homedWindows, hd] at hmem
      simp only [Bool.not_true, Bool.false_or] at hmem
      refine ⟨{ r with homes := ((s.homedWindows w.owner w.home).filter s.keptHandle).length }, ?_, hq⟩
      rw [if_pos rfl, tornDomain_slot hs.1, hr, Option.bind_some]
      exact emptyUnused_eq_some (.inr (List.length_pos_of_mem hmem))

end Sys2Proof.Machine

namespace Sys2Proof.Machine

/-! ## Every step keeps the counts and the home ranges -/

theorem CountsMove.of_set {x y : Domain} {i : SlotId} {r r' : Option RangeSlot} {n : Nat} (hh : y.held = n)
    (hr : x.slots[i] = r) (hs : y.slots = x.slots.set i r') : CountsMove x y i r r' n where
  held := hh
  before := hr
  after := by rw [hs, getElem_set_fin, if_pos rfl]
  others := fun j hj => by rw [hs, getElem_set_fin, if_neg hj]

@[simp] theorem freeWindow_window (s : State) (h : Handle) (w : Window) (x : Handle) :
    (s.freeWindow h w).window x = if x = h then none else s.window x := by
  simp [State.freeWindow]

theorem OnlyDomain.updDomain (s : State) (d : DomainId) (f : Domain → Domain) : OnlyDomain s (s.updDomain d f) d :=
  fun x hx => by rw [State.updDomain_domain, if_neg hx]

/-- A window opened at a FREE handle, homed in a qualifying slot, and its owner's record changed for it (R16). -/
theorem CountsHomed.opens {s : State} (hs : CountsHomed s) {h : Handle} {w : Window} (hfree : s.window h = none)
    {r : RangeSlot} (hr : (s.domain w.owner).slots[w.home] = some r) (hq : r.qualifies w.setting = true) :
    CountsHomed ((s.setWindow h (some w)).updDomain w.owner fun y => y.oneMore w.home) := by
  have hd : ((s.setWindow h (some w)).updDomain w.owner fun y => y.oneMore w.home).domain w.owner =
      (s.domain w.owner).oneMore w.home := by simp
  refine hs.gains (h := h) (w := w) (r := r) ⟨hfree, by simp, fun y hy => by simp [hy]⟩ hq ?_ fun y hy => by simp [hy]
  rw [hd]
  exact .of_set rfl hr (by simp [Domain.oneMore, hr])

/-- A live window freed, and its owner's record changed for it. -/
theorem CountsHomed.free {s : State} (hs : CountsHomed s) {h : Handle} {w : Window} (hw : s.window h = some w)
    {f : Domain → Domain} (hheld : (f (s.domain w.owner)).held = (s.domain w.owner).held - 1)
    (hslots : ∀ r, (s.domain w.owner).slots[w.home] = some r →
      ∃ r', (f (s.domain w.owner)).slots = (s.domain w.owner).slots.set w.home r' ∧
        (r' = some { r with homes := r.homes - 1 } ∨ (r' = none ∧ r.homes ≤ 1))) :
    CountsHomed ((s.freeWindow h w).updDomain w.owner f) := by
  obtain ⟨r, hr, -, -⟩ := hs.home_present hw
  obtain ⟨r', hset, hr'⟩ := hslots r hr
  have hd : ((s.freeWindow h w).updDomain w.owner f).domain w.owner = f (s.domain w.owner) := by simp
  refine hs.loses (h := h) (w := w) ⟨by simp, hw, fun x hx => by simp [hx]⟩ hr' ?_ fun x hx => by simp [hx]
  rw [hd]
  exact .of_set hheld hr hset

theorem afterHeadOk_place (w : Window) : w.afterHeadOk.place = w.place := by
  unfold Window.afterHeadOk
  split
  · split <;> rfl
  · rfl

theorem afterDrainOk_place (w : Window) : w.afterDrainOk.place = w.place := by
  unfold Window.afterDrainOk
  split
  · split <;> rfl
  · rfl

theorem samePlaces_activateHead (s : State) (c : ChannelId) : SamePlaces s (s.activateHead c) := by
  obtain ⟨-, h⟩ | ⟨x, -, -, h⟩ := activateHead_cases s c <;> rw [h]
  · exact .refl_of_windows rfl
  · refine .updWindow s x fun w => ?_
    split <;> rfl

theorem samePlaces_yield (s : State) (u : UnitRecord) : SamePlaces s (s.yield u) := by
  have ha := samePlaces_activateHead (s.setHolder none) u.channel
  exact (SamePlaces.refl_of_windows rfl).trans (ha.congr (by simp [State.yield]))

theorem yield_domains (s : State) (u : UnitRecord) : (s.yield u).domains = s.domains := by simp [State.yield]

theorem CountsHomed.yield {s : State} (hs : CountsHomed s) (u : UnitRecord) : CountsHomed (s.yield u) :=
  hs.of_places_domains (samePlaces_yield s u) (yield_domains s u)

theorem finishedDomain_held (d : DomainId) (x : Domain) : (finishedDomain d x).held = x.held := by
  unfold finishedDomain
  split
  · split <;> rfl
  · rfl

theorem finishedDomain_slots (d : DomainId) (x : Domain) : (finishedDomain d x).slots = x.slots := by
  unfold finishedDomain
  split
  · split <;> rfl
  · rfl

theorem finishDomains_domain (s : State) (d : DomainId) :
    s.finishDomains.domain d = finishedDomain d (s.domain d) := by
  simp [State.finishDomains]

theorem CountsHomed.finishDomains {s : State} (hs : CountsHomed s) : CountsHomed s.finishDomains :=
  hs.of_samePlaces (.refl_of_windows (State.finishDomains_windows s)) fun d => by
    rw [finishDomains_domain]
    exact ⟨finishedDomain_held d _, finishedDomain_slots d _⟩

theorem CountsHomed.finishTeardown {s : State} (hs : CountsHomed s) : CountsHomed s.finishTeardown := by
  unfold State.finishTeardown
  split
  · exact hs.finishDomains.of_places_domains (.refl_of_windows rfl) rfl
  · exact hs

theorem emptyUnused_cases (d : DomainId) (r : RangeSlot) : emptyUnused d r = some r ∨ (emptyUnused d r = none ∧ r.homes = 0) := by
  unfold emptyUnused
  split
  · next h => exact .inr ⟨rfl, h.2⟩
  · exact .inl rfl

theorem CountsHomed.tornDownEnd {s : State} (hs : CountsHomed s) {u : UnitRecord} {w : Window}
    (hw : s.window u.window = some w) : CountsHomed (s.tornDownEnd u w) := by
  have hf : CountsHomed ((s.freeWindow u.window w).updDomain w.owner fun x => x.lessDrained w.owner w.home) := by
    refine hs.free hw rfl fun r hr => ⟨_, rfl, ?_⟩
    rw [hr, Option.bind_some]
    obtain h | ⟨h, hz⟩ := emptyUnused_cases w.owner (r.lessHomes 1) <;> rw [h]
    · exact .inl rfl
    · exact .inr ⟨rfl, by simp only [RangeSlot.lessHomes] at hz; omega⟩
  have hr : CountsHomed ((((s.freeWindow u.window w).updDomain w.owner fun x => x.lessDrained w.owner w.home).updChannel
      u.channel Channel.released).setHolder none) := hf.of_places_domains (.refl_of_windows rfl) rfl
  exact hr.finishTeardown.of_places_domains (.refl_of_windows (by simp [State.tornDownEnd])) (by simp [State.tornDownEnd])

theorem CountsHomed.headOk {s : State} (hs : CountsHomed s) (u : UnitRecord) (w : Window) :
    CountsHomed (s.headOk u w) := by
  have hc : CountsHomed (s.headCounted u w) :=
    hs.of_places_domains ((SamePlaces.updWindow s u.window afterHeadOk_place).congr (by simp)) (by simp)
  rw [headOk_eq]
  split
  · exact hc.of_places_domains (.refl_of_windows (by simp)) (by simp)
  · exact hc.yield u

theorem CountsHomed.drainOk {s : State} (hs : CountsHomed s) (u : UnitRecord) (w : Window) :
    CountsHomed (s.drainOk u w) := by
  have hp : SamePlaces s (s.updWindow u.window Window.afterDrainOk) := .updWindow s u.window afterDrainOk_place
  exact CountsHomed.yield (hs.of_places_domains (hp.congr (by simp)) (by simp)) u

theorem CountsHomed.headFailed {s : State} (hs : CountsHomed s) (u : UnitRecord) (f : Failure) :
    CountsHomed (s.headFailed u f) := by
  have hp : SamePlaces s (s.updWindow u.window (Window.failedWith f)) := .updWindow s u.window fun _ => rfl
  unfold State.headFailed
  dsimp only
  split
  · exact CountsHomed.yield (hs.of_places_domains (hp.congr (by simp)) (by simp)) u
  · exact hs.of_places_domains (hp.congr (by simp)) (by simp)

theorem CountsHomed.drainFailed {s : State} (hs : CountsHomed s) (u : UnitRecord) (f : Failure) :
    CountsHomed (s.drainFailed u f) := by
  have hp : SamePlaces s (s.updWindow u.window (Window.failedWith f)) := .updWindow s u.window fun _ => rfl
  exact CountsHomed.yield (hs.of_places_domains (hp.congr (by simp)) (by simp)) u

theorem CountsHomed.unitOk {s : State} (hs : CountsHomed s) (u : UnitRecord) : CountsHomed (s.unitOk u) := by
  have hr : CountsHomed (s.setRecord none) := hs.of_places_domains (.refl_of_windows rfl) rfl
  obtain ⟨-, h⟩ | ⟨w, hw, ⟨-, h⟩ | ⟨-, -, h⟩ | ⟨-, -, h⟩ | ⟨-, -, -, h⟩⟩ := unitOk_cases s u <;> rw [h]
  · exact hr.yield u
  · exact hr.tornDownEnd hw
  · exact hr.drainOk u w
  · exact hr.headOk u w
  · exact hr.yield u

theorem CountsHomed.unitFailed {s : State} (hs : CountsHomed s) (u : UnitRecord) (f : Failure) :
    CountsHomed (s.unitFailed u f) := by
  have hr : CountsHomed (s.setRecord none) := hs.of_places_domains (.refl_of_windows rfl) rfl
  obtain ⟨-, h⟩ | ⟨w, hw, ⟨-, h⟩ | ⟨-, -, h⟩ | ⟨-, -, h⟩ | ⟨-, -, -, h⟩⟩ := unitFailed_cases s u f <;> rw [h]
  · exact hr.yield u
  · exact hr.tornDownEnd hw
  · exact hr.drainFailed u f
  · exact hr.headFailed u f
  · exact hr.yield u

theorem samePlaces_expire (s : State) (hs : List Handle) : SamePlaces s (s.expire hs) :=
  .of_map (f := fun _ => expiredWindow) (fun _ _ => rfl) fun h => by
    rw [expire_window]
    split
    · exact .inr rfl
    · exact .inl rfl

theorem countdown_domains (s : State) : s.countdown.domains = s.domains := by
  simp [State.countdown, expire_domains]

theorem samePlaces_countdown (s : State) : SamePlaces s s.countdown := fun h => by
  rw [countdown_window]
  split
  · cases s.window h <;> rfl
  · split
    · cases s.window h <;> rfl
    · rfl

/-! ## The commands and the counts -/

theorem openWindow_keeps_counts (d : DomainId) (t : BitVec 8) (s : State) (hs : CountsHomed s) :
    Keeps CountsHomed (openWindow d t s) := by
  unfold openWindow
  split
  · trivial
  · next x hx =>
    split
    · trivial
    · split
      · trivial
      · split
        · trivial
        · next i hi =>
          split
          · trivial
          · split
            · trivial
            · next h hh =>
              obtain ⟨⟨r, hr, hq⟩, -⟩ := homeFor_eq_some.mp hi
              have hfree := (freeHandle_eq_some.mp hh).1
              exact hs.opens (w := openedWindow d i x) hfree hr ((qualifies_iff r x).mpr hq)

theorem releaseWindow_keeps_counts (d : DomainId) (t : BitVec 8) (s : State) (hs : CountsHomed s) :
    Keeps CountsHomed (releaseWindow d t s) := by
  unfold releaseWindow
  split
  · trivial
  · next h w hl =>
    split
    · trivial
    · next ho =>
      split
      · trivial
      · split
        · trivial
        · have hd : d = w.owner := by simpa using Eq.symm (Decidable.not_not.mp ho)
          subst hd
          refine hs.free (liveWindow_mem hl) rfl fun r hr => ⟨_, rfl, .inl ?_⟩
          simp [hr, RangeSlot.lessHomes]

/-- A command whose block leaves every window in its place and the domains as they were. -/
theorem CountsHomed.keeps_setWindow {s t : State} (hs : CountsHomed s) {h : Handle} {w v : Window}
    (hw : s.window h = some w) (hp : v.place = w.place) (ht : t.windows = (s.setWindow h (some v)).windows)
    (hd : t.domains = s.domains) : CountsHomed t :=
  hs.of_places_domains ((SamePlaces.setWindow hw hp).congr ht) hd

theorem bound_place (w : Window) (c : ChannelId) (b : Bool) : (w.bound c b).place = w.place := by
  cases b <;> rfl

theorem bindWindow_keeps_counts (d : DomainId) (t : BitVec 8) (s : State) (hs : CountsHomed s) :
    Keeps CountsHomed (bindWindow d t s) := by
  unfold bindWindow
  split
  · next h w c hl _ =>
    split
    · trivial
    · split
      · trivial
      · exact hs.keeps_setWindow (liveWindow_mem hl) (bound_place w c _) (by simp; rfl) (by simp)
  · trivial

theorem samePlaces_revokeLinked (s : State) (h : Handle) (c : ChannelId) : SamePlaces s (s.revokeLinked h c) :=
  (SamePlaces.updWindow s h (f := Window.parkedOff) fun _ => rfl).congr rfl

theorem samePlaces_startDrain (s : State) (h : Handle) (c : ChannelId) : SamePlaces s (s.startDrain h c) :=
  (SamePlaces.updWindow s h (f := fun w => { w with state := .draining }) fun _ => rfl).congr rfl

theorem revokeActive_domains (s : State) (h : Handle) (c : ChannelId) :
    (s.revokeActive h c).domains = s.domains := by
  simp [State.revokeActive, State.revokeLinked]

theorem samePlaces_revokeActive (s : State) (h : Handle) (c : ChannelId) : SamePlaces s (s.revokeActive h c) :=
  ((samePlaces_revokeLinked s h c).trans (samePlaces_activateHead _ c)).congr rfl

theorem revokeWindow_keeps_counts (d : DomainId) (t : BitVec 8) (s : State) (hs : CountsHomed s) :
    Keeps CountsHomed (revokeWindow d t s) := by
  unfold revokeWindow
  split
  · trivial
  · next h w hl =>
    split
    · trivial
    · split
      · next c _ _ =>
        exact hs.of_places_domains ((samePlaces_revokeLinked s h c).congr (raiseOverride_windows _ _ _ _))
          (raiseOverride_domains _ _ _ _)
      · next c _ _ =>
        split
        · exact hs.of_places_domains ((samePlaces_startDrain s h c).congr (raiseOverride_windows _ _ _ _))
            (raiseOverride_domains _ _ _ _)
        · exact hs.of_places_domains ((samePlaces_revokeActive s h c).congr (raiseOverride_windows _ _ _ _))
            ((raiseOverride_domains _ _ _ _).trans (revokeActive_domains s h c))
      · trivial

theorem rewindWindow_keeps_counts (d : DomainId) (t : BitVec 8) (s : State) (hs : CountsHomed s) :
    Keeps CountsHomed (rewindWindow d t s) := by
  unfold rewindWindow
  split
  · trivial
  · next h w hl =>
    split
    · trivial
    · split
      · trivial
      · exact hs.keeps_setWindow (v := w.rewound) (liveWindow_mem hl) rfl rfl rfl

theorem amendWindow_keeps_counts (d : DomainId) (t : BitVec 8) (s : State) (hs : CountsHomed s) :
    Keeps CountsHomed (amendWindow d t s) := by
  unfold amendWindow
  split
  · trivial
  · next h w hl =>
    split
    · trivial
    · split
      · trivial
      · next x _ =>
        split
        · trivial
        · refine hs.keeps_setWindow (v := w.amended x) (liveWindow_mem hl) rfl ?_ (moveNotice_domains _ _ _ _)
          simp only [State.setWindow, moveNotice_windows]

theorem touchWindow_keeps_counts (d : DomainId) (t : BitVec 8) (s : State) (hs : CountsHomed s) :
    Keeps CountsHomed (touchWindow d t s) := by
  unfold touchWindow
  split
  · trivial
  · next h w hl =>
    split
    · trivial
    · exact hs.keeps_setWindow (v := w.renewed) (liveWindow_mem hl) rfl rfl rfl

theorem samePlaces_activateHead_updChannel (s : State) (c : ChannelId) (f : Channel → Channel) :
    SamePlaces s ((s.updChannel c f).activateHead c) :=
  (SamePlaces.refl_of_windows rfl).trans (samePlaces_activateHead (s.updChannel c f) c)

theorem disableChannel_keeps_counts (d : DomainId) (t : BitVec 8) (s : State) (hs : CountsHomed s) :
    Keeps CountsHomed (disableChannel d t s) := by
  refine keeps_onChannel fun c => ?_
  split
  · trivial
  · exact hs.of_places_domains (.refl_of_windows rfl) rfl
  · exact hs.of_places_domains (samePlaces_activateHead_updChannel s c _) (by simp)
  all_goals exact hs.of_places_domains (.refl_of_windows rfl) rfl

theorem cutWindow_place (s : State) (h : Handle) (w : Window) : (s.cutWindow h w).place = w.place := by
  unfold State.cutWindow
  split
  · rfl
  · split <;> rfl
  · rfl

theorem CountsHomed.cutChainOf {s : State} (hs : CountsHomed s) (c : ChannelId) : CountsHomed (s.cutChainOf c) := by
  refine hs.of_places_domains (.of_map (cutWindow_place s) fun h => ?_) (by simp [State.cutChainOf])
  rw [cutChainOf_window]
  split
  · exact .inr rfl
  · exact .inl rfl

theorem cutChain_keeps_counts (d : DomainId) (t : BitVec 8) (s : State) (hs : CountsHomed s) :
    Keeps CountsHomed (cutChain d t s) := by
  refine keeps_onChannel fun c => ?_
  dsimp only
  split <;> exact hs.cutChainOf c

theorem resumeChannel_keeps_counts (d : DomainId) (t : BitVec 8) (s : State) (hs : CountsHomed s) :
    Keeps CountsHomed (resumeChannel d t s) := by
  refine keeps_onChannel fun c => ?_
  split
  · trivial
  · exact hs.of_places_domains
      ((samePlaces_activateHead_updChannel s c fun ch => { ch with stall := none }).congr (by simp)) (by simp)

/-- A command that changes one domain record, and neither its held count nor its slots. -/
theorem CountsHomed.updDomain {s : State} (hs : CountsHomed s) (d : DomainId) {f : Domain → Domain}
    (hh : ∀ x, (f x).held = x.held) (hf : ∀ x, (f x).slots = x.slots) : CountsHomed (s.updDomain d f) :=
  hs.of_samePlaces (.refl_of_windows rfl) fun e => by
    rw [State.updDomain_domain]
    split
    · next he => exact ⟨he ▸ hh _, he ▸ hf _⟩
    · exact ⟨rfl, rfl⟩

theorem openDomain_keeps_counts (d : DomainId) (t : BitVec 8) (s : State) (hs : CountsHomed s) :
    Keeps CountsHomed (openDomain d t s) := by
  refine keeps_supervisor (keeps_onDomain fun x => ?_)
  dsimp only
  split
  · trivial
  · split
    · trivial
    · exact hs.updDomain x (fun _ => rfl) fun _ => rfl

theorem setQuota_keeps_counts (d : DomainId) (t : BitVec 8) (s : State) (hs : CountsHomed s) :
    Keeps CountsHomed (setQuota d t s) := by
  refine keeps_supervisor (keeps_onDomain fun x => ?_)
  dsimp only
  split
  · trivial
  · split
    · trivial
    · split
      · trivial
      · exact hs.updDomain x (fun _ => rfl) fun _ => rfl

theorem slotInUse_eq_false {o : Option RangeSlot} (h : ¬ slotInUse o = true) : o.elim 0 (fun r => r.homes) = 0 := by
  cases o with
  | none => rfl
  | some r => simpa [slotInUse] using h

theorem setRange_keeps_counts (d : DomainId) (t : BitVec 8) (s : State) (hs : CountsHomed s) :
    Keeps CountsHomed (setRange d t s) := by
  refine keeps_supervisor (keeps_onDomain fun x => keeps_onSlot fun i => ?_)
  dsimp only
  split
  · trivial
  · split
    · trivial
    · split
      · trivial
      · next hu => exact hs.setSlot (slotInUse_eq_false hu) rfl

theorem clearRange_keeps_counts (d : DomainId) (t : BitVec 8) (s : State) (hs : CountsHomed s) :
    Keeps CountsHomed (clearRange d t s) := by
  refine keeps_supervisor (keeps_onDomain fun x => keeps_onSlot fun i => ?_)
  split
  · trivial
  · split
    · trivial
    · next hu => exact hs.setSlot (slotInUse_eq_false hu) rfl

theorem tearDown_keeps_counts {s : State} (hs : CountsHomed s) (ds : DomainId → Bool)
    (k : Nat → ChannelSet → Waiting) : Keeps CountsHomed (s.tearDown ds k) := by
  unfold State.tearDown
  dsimp only
  split
  · exact (hs.beginTeardown ds).finishDomains
  · exact hs.beginTeardown ds

theorem closeDomain_keeps_counts (d : DomainId) (t : BitVec 8) (s : State) (hs : CountsHomed s) :
    Keeps CountsHomed (closeDomain d t s) := by
  refine keeps_supervisor (keeps_onDomain fun x => ?_)
  split
  · trivial
  · exact tearDown_keeps_counts hs _ _

theorem masterClear_keeps_counts (d : DomainId) (t : BitVec 8) (s : State) (hs : CountsHomed s) :
    Keeps CountsHomed (masterClear d t s) := by
  have hr : CountsHomed { s with arbiter := { s.arbiter with run := .run } } :=
    hs.of_places_domains (.refl_of_windows rfl) rfl
  exact keeps_supervisor (tearDown_keeps_counts hr _ _)

/-- Every command that may change a window or a domain record keeps the counts and the home ranges. -/
theorem recordCommands_keep_counts :
    ∀ f ∈ recordCommands, ∀ d t s, CountsHomed s → Keeps CountsHomed (f d t s) := by
  simp only [recordCommands, List.mem_cons, List.not_mem_nil, or_false, forall_eq_or_imp, forall_eq]
  exact ⟨openWindow_keeps_counts, releaseWindow_keeps_counts, bindWindow_keeps_counts, revokeWindow_keeps_counts,
    rewindWindow_keeps_counts, amendWindow_keeps_counts, touchWindow_keeps_counts, disableChannel_keeps_counts,
    cutChain_keeps_counts, resumeChannel_keeps_counts, openDomain_keeps_counts, closeDomain_keeps_counts,
    setQuota_keeps_counts, setRange_keeps_counts, clearRange_keeps_counts, masterClear_keeps_counts⟩

end Sys2Proof.Machine

namespace Sys2Proof.Proofs

open Sys2Proof.Machine

/-- Settles O54, through the windows that each shared operation leaves in their place, frees or opens. -/
theorem countsKept : Obligations.CountsKept :=
  keptByStep_of_records (P := CountsHomed) (fun _ _ hw hd hs => hs.of_places_domains (.refl_of_windows hw) hd) recordCommands_keep_counts
    (fun _ u hs => hs.unitOk u) (fun _ u f hs => hs.unitFailed u f)
    (fun s hs => hs.of_places_domains (samePlaces_countdown s) (countdown_domains s))
    (fun s h _ hs => hs.of_places_domains (samePlaces_expire s [h]) (expire_domains s [h])) (by decide)

end Sys2Proof.Proofs

namespace Sys2Proof.Machine

/-! ## Hardware reset -/

/-- Every block of the state after hardware reset stands at its reset values. -/
theorem reset_atResetValues : AtResetValues State.reset := by decide

theorem note_reset (d : DomainId) : State.reset.note d = false := by
  revert d
  decide

theorem ak_eq_false {s : State} (h : s.memory.record = none) (c : ChannelId) : s.ak c = false := by
  simp [State.ak, h]

/-- Without a unit in flight every line of the memory port is withdrawn or not driven (R67). -/
theorem portLines_of_no_record {s : State} (h : s.memory.record = none) :
    s.lastLine = false ∧ s.mbreq = false ∧ s.ma = none ∧ s.mbe = none ∧ s.mwr = none := by
  simp [State.lastLine, State.mbreq, State.ma, State.mbe, State.mwr, State.busRecord, h]

theorem resetRelease_channel (s : State) (c : ChannelId) :
    s.resetRelease.channel c = { s.channel c with line := s.rq[c] } :=
  State.mapChannels_channel s (fun c ch => { ch with line := s.rq[c] }) c

theorem frame_resetRelease (s : State) : Frame s s.resetRelease [.channels, .resetLine] := by
  intro b hb
  cases b <;> first | rfl | exact absurd (by simp) hb

end Sys2Proof.Machine

namespace Sys2Proof.Proofs

open Sys2Proof.Machine

/-- Settles O3, by evaluation of the reset state. -/
theorem resetState : Obligations.ResetState :=
  ⟨reset_atResetValues, by decide, rfl, rfl, rfl⟩

/-- Settles O4: the assertion of RESETN puts the reset state's blocks in place of the state's own. -/
theorem resetLine : Obligations.ResetLine := by
  refine ⟨fun s => ?_, fun s hr => ?_, fun s hr => ?_⟩
  · have hn : s.hardwareReset.memory.record = none := rfl
    obtain ⟨hlast, hreq, hma, hmbe, hmwr⟩ := portLines_of_no_record hn
    exact ⟨s.hardwareReset, rfl, reset_atResetValues, rfl, rfl, rfl, ak_eq_false hn, hlast, hreq, hma, hmbe, hmwr,
      note_reset⟩
  · refine ⟨s.resetRelease, ?_, rfl, resetRelease_channel s, frame_resetRelease s⟩
    simp [exec, execResetRelease, hr]
  · simp [exec, execResetRelease, hr]

/-- Settles O52, by evaluation of the reset state. -/
theorem invariantsAtReset : Obligations.InvariantsAtReset :=
  ⟨by decide, by decide, by decide, by decide,
    ⟨by decide, by decide, by decide, by decide, by decide, by decide, by decide, by decide, by decide, by decide⟩,
    by decide, by decide⟩

end Sys2Proof.Proofs

namespace Sys2Proof.Machine

/-! ## The window commands: a setting, a handle and an acceptance -/

/-- The live window that a target names, after an acceptance. -/
theorem liveWindow_accept {s : State} {t : BitVec 8} {h : Handle} {w : Window} (ht : t.toNat = h.val)
    (hw : s.window h = some w) (d : DomainId) (word : Word) : (s.accept d word).liveWindow t = some (h, w) :=
  liveWindow_eq_some.mpr ⟨ht, by rw [State.accept_window, hw]⟩

theorem liveWindow_accept_none {s : State} {t : BitVec 8} (hn : ∀ h : Handle, t.toNat = h.val → s.window h = none)
    (d : DomainId) (word : Word) : (s.accept d word).liveWindow t = none :=
  liveWindow_eq_none.mpr fun h ht => by rw [State.accept_window, hn h ht]

theorem inService_accept (s : State) (e : DomainId) (word : Word) (h : Handle) :
    (s.accept e word).inService h = s.inService h := rfl

theorem openWindow_bad {s : State} {d : DomainId} {t : BitVec 8} (word : Word) (hp : SettingBad (s.port d).params) :
    openWindow d t (s.accept d word) = .refused .badValue := by
  simp only [openWindow, taken_accept, decodeSetting_eq_none.mpr hp]

/-- OPEN WINDOW whose words name a setting, by its checks in their order (R12 to R15). -/
theorem openWindow_given {s : State} {d : DomainId} {t : BitVec 8} {x : Setting} (word : Word)
    (hp : SettingGiven (s.port d).params x) :
    openWindow d t (s.accept d word) =
      if x.inSpace = false then .refused .badValue
      else if x.aligned = false then .refused .align
      else match s.homeFor d x with
        | none => .refused .range
        | some i =>
          if (s.domain d).quota ≤ (s.domain d).held then .refused .quota
          else match s.freeHandle with
            | none => .refused .full
            | some h =>
              .done (((s.accept d word).setWindow h (some (openedWindow d i x))).updDomain d fun y => y.oneMore i)
                (words (field h.val 0) 0 0 0) := by
  rw [openWindow, taken_accept, decodeSetting_eq_some.mpr hp]
  rfl

theorem openWindow_done {s : State} {d : DomainId} {t : BitVec 8} {x : Setting} (word : Word) {i : SlotId} {h : Handle}
    (hp : SettingGiven (s.port d).params x) (hs : x.inSpace = true) (ha : x.aligned = true) (hi : HomeIs s d x i)
    (hq : (s.domain d).held < (s.domain d).quota) (hf : LowestFree s h) :
    openWindow d t (s.accept d word) =
      .done (((s.accept d word).setWindow h (some (openedWindow d i x))).updDomain d fun y => y.oneMore i)
        (words (field h.val 0) 0 0 0) := by
  rw [openWindow_given word hp]
  simp [hs, ha, homeFor_eq_some.mpr hi, Nat.not_le.mpr hq, freeHandle_eq_some.mpr hf]

theorem oneMore_eq {x : Domain} {i : SlotId} {r : RangeSlot} (hr : x.slots[i] = some r) :
    x.oneMore i =
      { x with held := x.held + 1, slots := x.slots.set i (some { r with homes := r.homes + 1 }) } := by
  rw [Domain.oneMore, hr]
  rfl

/-- A FREE handle has no pending cause, and no entry in service names it (R119). -/
theorem NoticesAgree.of_free {s : State} (hn : NoticesAgree s) {h : Handle} (hf : s.window h = none) :
    s.pendingCauses h = 0 ∧ ∀ d, (s.notice d).entryOf h = none := by
  obtain ⟨hcauses, -, hservice⟩ := hn
  refine ⟨?_, fun d => ?_⟩
  · by_contra hc
    obtain ⟨w, hw, -⟩ := hcauses h hc
    rw [hf] at hw
    cases hw
  · rw [entryOf_eq_none]
    rintro l e he rfl
    obtain ⟨-, w, hw, -⟩ := hservice d l e he
    rw [hf] at hw
    cases hw

end Sys2Proof.Machine
namespace Sys2Proof.Proofs

open Sys2Proof.Machine

/-- Settles O7. -/
theorem openWindowRefused : Obligations.OpenWindowRefused := by
  intro s a d tgt up hA
  have refused : ∀ {o}, Machine.openWindow d tgt (s.accept d (commandWord 0x10 tgt up)) = .refused o →
      Refused s (.openWindow a tgt up) d o := fun hb => refused_of hA rfl rfl hb
  refine ⟨fun hp => refused (openWindow_bad _ hp), fun x hx => ⟨fun hs => ?_, fun hs ha => ?_, fun hs ha hn => ?_,
    fun i hs ha hi => ⟨fun hq => ?_, fun hq hf => ?_⟩⟩⟩ <;> refine refused ?_ <;> rw [openWindow_given _ hx]
  · simp [hs]
  · simp [hs, ha]
  · simp [hs, ha, homeFor_eq_none.mpr hn]
  · simp [hs, ha, homeFor_eq_some.mpr hi, hq]
  · simp [hs, ha, homeFor_eq_some.mpr hi, Nat.not_le.mpr hq, freeHandle_eq_none.mpr hf]

/-- Settles O6. -/
theorem openWindow : Obligations.OpenWindow := by
  intro s a d tgt up x i h hA hx hs ha hi hq hf
  obtain ⟨r, hr, -⟩ := hi.1
  refine ⟨_, openedWindow d i x, r, exec_done hA rfl (openWindow_done _ hx hs ha hi hq hf), answers_complete _ _ rfl,
    by simp, rfl, rfl, rfl, rfl, rfl, rfl, rfl, rfl, rfl, rfl, fun y hy => by simp [hy], hr,
    by simp [oneMore_eq hr], fun y hy => by simp [hy], ?_, fun hn => ?_⟩
  · intro b hb
    cases b <;> first | rfl | exact absurd (by simp) hb
  · obtain ⟨hc, he⟩ := hn.of_free hf.1
    exact ⟨hc, by simp [State.inService, he]⟩

end Sys2Proof.Proofs

namespace Sys2Proof.Machine

/-! ## The window commands on a live window, by their checks in their order (R163) -/

section
variable {s : State} {d : DomainId} {t : BitVec 8}

theorem releaseWindow_none (hl : s.liveWindow t = none) : releaseWindow d t s = .refused .badHandle := by
  rw [releaseWindow, hl]

theorem bindWindow_none (hl : s.liveWindow t = none) : bindWindow d t s = .refused .badHandle := by
  rw [bindWindow, hl]

theorem bindWindow_badChannel (hc : 12 ≤ bits (s.taken d)[0] 0 8) : bindWindow d t s = .refused .badHandle := by
  rw [bindWindow, index?_eq_none.mpr hc]
  cases s.liveWindow t <;> rfl

theorem revokeWindow_none (hl : s.liveWindow t = none) : revokeWindow d t s = .refused .badHandle := by
  rw [revokeWindow, hl]

theorem rewindWindow_none (hl : s.liveWindow t = none) : rewindWindow d t s = .refused .badHandle := by
  rw [rewindWindow, hl]

theorem amendWindow_none (hl : s.liveWindow t = none) : amendWindow d t s = .refused .badHandle := by
  rw [amendWindow, hl]

theorem touchWindow_none (hl : s.liveWindow t = none) : touchWindow d t s = .refused .badHandle := by
  rw [touchWindow, hl]

theorem readWindow_none (hl : s.liveWindow t = none) : readWindow d t s = .refused .badHandle := by
  rw [readWindow, hl]

variable {h : Handle} {w : Window}

theorem releaseWindow_live (hl : s.liveWindow t = some (h, w)) :
    releaseWindow d t s =
      if w.owner ≠ d then .refused .notOwner
      else if w.state.engaged then .refused .state
      else if s.inService h then .refused .noticeHeld
      else .done ((s.freeWindow h w).updDomain d fun y => y.oneFewer w.home) noResults := by
  rw [releaseWindow, hl]

theorem bindWindow_live {c : ChannelId} (hl : s.liveWindow t = some (h, w)) (hc : bits (s.taken d)[0] 0 8 = c.val) :
    bindWindow d t s =
      if w.owner ≠ d ∨ (s.channel c).owner ≠ some d then .refused .notOwner
      else if w.state ≠ .parked then .refused .state
      else .done
        (((s.setWindow h (some (w.bound c (s.channel c).bindsActive))).updChannel c fun ch =>
          ch.withBound h).grantDecision)
        (words (chainWord (if (s.channel c).bindsActive then .active else .linked) ((s.channel c).chain.length + 1))
          0 0 0) := by
  rw [bindWindow, hl, index?_eq_some.mpr hc]

theorem revokeWindow_notOwner (hl : s.liveWindow t = some (h, w)) (ho : w.owner ≠ d) (hd : d ≠ 0) :
    revokeWindow d t s = .refused .notOwner := by
  rw [revokeWindow, hl]
  exact if_pos ⟨ho, hd⟩

/-- REVOKE WINDOW on a window that stands on no chain (R87). -/
theorem revokeWindow_offChain (hl : s.liveWindow t = some (h, w)) (ho : w.owner = d ∨ d = 0)
    (hs : w.state.onChain = false) : revokeWindow d t s = .refused .state := by
  have hn : ¬ (w.owner ≠ d ∧ d ≠ 0) := fun hh => ho.elim hh.1 hh.2
  rw [revokeWindow, hl]
  refine (if_neg hn).trans ?_
  split
  · next hst _ => simp [hst, WindowState.onChain] at hs
  · next hst _ => simp [hst, WindowState.onChain] at hs
  · rfl

theorem rewindWindow_live (hl : s.liveWindow t = some (h, w)) :
    rewindWindow d t s =
      if w.owner ≠ d then .refused .notOwner
      else if w.state.engaged then .refused .state
      else .done (s.setWindow h (some w.rewound)) noResults := by
  rw [rewindWindow, hl]

theorem amendWindow_notOwner (hl : s.liveWindow t = some (h, w)) (ho : w.owner ≠ d) :
    amendWindow d t s = .refused .notOwner := by
  rw [amendWindow, hl]
  exact if_pos ho

theorem amendWindow_bad (hl : s.liveWindow t = some (h, w)) (ho : w.owner = d) (hb : NotifyBad (s.taken d)[0]) :
    amendWindow d t s = .refused .badValue := by
  rw [amendWindow, hl, decodeNotify_eq_none.mpr hb]
  exact if_neg (not_not.mpr ho)

theorem amendWindow_given {x : Notify} (hl : s.liveWindow t = some (h, w)) (ho : w.owner = d)
    (hx : NotifyGiven (s.taken d)[0] (s.taken d)[1] x) :
    amendWindow d t s =
      if x.level ≠ w.level ∧ s.inService h then .refused .noticeHeld
      else .done ((s.moveNotice h w x.level).setWindow h (some (w.amended x))) noResults := by
  rw [amendWindow, hl, decodeNotify_eq_some.mpr hx]
  exact if_neg (not_not.mpr ho)

theorem touchWindow_live (hl : s.liveWindow t = some (h, w)) :
    touchWindow d t s =
      if w.owner ≠ d then .refused .notOwner
      else .done (s.setWindow h (some w.renewed)) (words (leaseWord w.renewed) 0 0 0) := by
  rw [touchWindow, hl]

theorem readWindow_notOwner (hl : s.liveWindow t = some (h, w)) (ho : w.owner ≠ d) (hd : d ≠ 0) :
    readWindow d t s = .refused .notOwner := by
  rw [readWindow, hl]
  exact if_pos ⟨ho, hd⟩

theorem readWindow_part0 (hl : s.liveWindow t = some (h, w)) (ho : w.owner = d ∨ d = 0)
    (hp : bits (s.taken d)[0] 0 8 = 0) : readWindow d t s = .done s (windowPart0 w) := by
  have hn : ¬ (w.owner ≠ d ∧ d ≠ 0) := fun hh => ho.elim hh.1 hh.2
  rw [readWindow, hl, hp]
  exact if_neg hn

theorem readWindow_part1 (hl : s.liveWindow t = some (h, w)) (ho : w.owner = d ∨ d = 0)
    (hp : bits (s.taken d)[0] 0 8 = 1) : readWindow d t s = .done s (windowPart1 s h w) := by
  have hn : ¬ (w.owner ≠ d ∧ d ≠ 0) := fun hh => ho.elim hh.1 hh.2
  rw [readWindow, hl, hp]
  exact if_neg hn

theorem readWindow_badPart (hl : s.liveWindow t = some (h, w)) (ho : w.owner = d ∨ d = 0)
    (hp : 2 ≤ bits (s.taken d)[0] 0 8) : readWindow d t s = .refused .badValue := by
  have hn : ¬ (w.owner ≠ d ∧ d ≠ 0) := fun hh => ho.elim hh.1 hh.2
  rw [readWindow, hl]
  refine (if_neg hn).trans ?_
  split
  · omega
  · omega
  · rfl

end

theorem engaged_eq_true {st : WindowState} :
    st.engaged = true ↔ st = .linked ∨ st = .active ∨ st = .draining := by
  cases st <;> simp [WindowState.engaged]

theorem engaged_eq_false {st : WindowState} :
    st.engaged = false ↔ st = .parked ∨ st = .spent ∨ st = .failed := by
  cases st <;> simp [WindowState.engaged]

theorem onChain_eq_false {st : WindowState} :
    st.onChain = false ↔ st = .parked ∨ st = .draining ∨ st = .spent ∨ st = .failed := by
  cases st <;> simp [WindowState.onChain]

theorem Frame.setWindow (s : State) (h : Handle) (o : Option Window) : Frame s (s.setWindow h o) [.windows] := by
  intro b hb
  cases b <;> first | rfl | exact absurd (by simp) hb

/-! ## The release of a window -/

@[simp] theorem freeWindow_pendingCauses (s : State) (h : Handle) (w : Window) (x : Handle) :
    (s.freeWindow h w).pendingCauses x = if x = h then 0 else s.pendingCauses x := by
  simp [State.freeWindow]

@[simp] theorem freeWindow_notice (s : State) (h : Handle) (w : Window) (e : DomainId) :
    (s.freeWindow h w).notice e = if e = w.owner then (s.notice w.owner).without h else s.notice e := by
  simp [State.freeWindow]

theorem without_lists (n : NoticeRecord) (h : Handle) (l : Level) :
    (n.without h).lists[l] = n.lists[l].filter fun x => x != h :=
  getElem_ofFn_fin (fun l : Level => n.lists[l].filter fun x => x != h) l

/-- A window that no entry in service names leaves the in-service table as it is. -/
theorem without_service {n : NoticeRecord} {h : Handle} (he : n.entryOf h = none) : (n.without h).service = n.service := by
  refine Vector.ext fun i hi => ?_
  have hg : (n.without h).service[i] = (n.service[i]).bind fun e => e.unless h :=
    getElem_ofFn_fin (fun l : Level => (n.service[l]).bind fun e => e.unless h) ⟨i, hi⟩
  rw [hg]
  cases hs : n.service[i] with
  | none => rfl
  | some e => simp [NoticeEntry.unless, entryOf_eq_none.mp he ⟨i, hi⟩ e hs]

theorem entryOf_of_not_inService {s : State} {h : Handle} {w : Window} (hw : s.window h = some w)
    (hn : s.inService h = false) : (s.notice w.owner).entryOf h = none := by
  simpa [State.inService, hw] using hn

theorem frame_freeWindow (s : State) (h : Handle) (w : Window) :
    Frame s (s.freeWindow h w) [.windows, .causes, .notices] := by
  intro b hb
  cases b <;> first | rfl | exact absurd (by simp) hb

end Sys2Proof.Machine
namespace Sys2Proof.Proofs

open Sys2Proof.Machine

/-- Settles O8. -/
theorem releaseWindow : Obligations.ReleaseWindow := by
  intro s a d tgt up h w hA ht hw ho hst hn
  subst ho
  have hb : Machine.releaseWindow w.owner tgt (s.accept w.owner (commandWord 0x11 tgt up)) =
      .done (((s.accept w.owner (commandWord 0x11 tgt up)).freeWindow h w).updDomain w.owner fun y => y.oneFewer w.home)
        noResults := by
    simp [releaseWindow_live (liveWindow_accept ht hw _ _), inService_accept, engaged_eq_false.mpr hst, hn]
  have he := entryOf_of_not_inService hw hn
  refine ⟨_, exec_done hA rfl hb, answers_complete _ _ rfl, by simp, fun x hx => by simp [hx], by simp,
    fun x hx => by simp [hx], fun l => ?_, ?_, by simp [NoticeRecord.without], by simp [NoticeRecord.without],
    by simp [NoticeRecord.without], fun x hx => by simp [hx], ?_,
    fun x hx => by simp [hx], ?_⟩
  · simp only [State.complete_notice, State.updDomain_notice, freeWindow_notice, if_true]
    exact without_lists _ h l
  · simpa using without_service he
  · simp
    rfl
  · refine Frame.complete (by simp) (((frame_freeWindow _ h w).mono (by simp)).trans
      ((Frame.updDomain _ w.owner _).mono (by simp)))

/-- Settles O12. -/
theorem rewindAndTouch : Obligations.RewindAndTouch := by
  intro s a d tgt up hA
  have rewindRefused : ∀ {o}, rewindWindow d tgt (s.accept d (commandWord 0x14 tgt up)) = .refused o →
      Refused s (.rewindWindow a tgt up) d o := fun hb => refused_of hA rfl rfl hb
  have touchRefused : ∀ {o}, touchWindow d tgt (s.accept d (commandWord 0x16 tgt up)) = .refused o →
      Refused s (.touchWindow a tgt up) d o := fun hb => refused_of hA rfl rfl hb
  refine ⟨fun hn => ⟨rewindRefused (rewindWindow_none (liveWindow_accept_none hn _ _)),
    touchRefused (touchWindow_none (liveWindow_accept_none hn _ _))⟩, fun h w ht hw => ?_⟩
  have hl := fun word => liveWindow_accept ht hw d word
  refine ⟨fun ho => ⟨rewindRefused ?_, touchRefused ?_⟩, fun ho hst => rewindRefused ?_, fun ho hst => ?_, fun ho => ?_⟩
  · rw [rewindWindow_live (hl _), if_pos ho]
  · rw [touchWindow_live (hl _), if_pos ho]
  · simp [rewindWindow_live (hl _), ho, engaged_eq_true.mpr hst]
  · have hb : rewindWindow d tgt (s.accept d (commandWord 0x14 tgt up)) =
        .done ((s.accept d (commandWord 0x14 tgt up)).setWindow h (some w.rewound)) noResults := by
      simp [rewindWindow_live (hl _), ho, engaged_eq_false.mpr hst]
    exact ⟨_, exec_done hA rfl hb, answers_complete _ _ rfl, by simp [Window.rewound], fun x hx => by simp [hx],
      Frame.complete (by simp) ((Frame.setWindow _ h _).mono (by simp))⟩
  · have hb : touchWindow d tgt (s.accept d (commandWord 0x16 tgt up)) =
        .done ((s.accept d (commandWord 0x16 tgt up)).setWindow h (some w.renewed)) (words (leaseWord w.renewed) 0 0 0) := by
      simp [touchWindow_live (hl _), ho]
    exact ⟨_, exec_done hA rfl hb, answers_complete _ _ rfl, by simp [Window.renewed], fun x hx => by simp [hx],
      Frame.complete (by simp) ((Frame.setWindow _ h _).mono (by simp))⟩

/-- Settles O15. -/
theorem windowRefusals : Obligations.WindowRefusals := by
  intro s a d tgt up hA
  have release : ∀ {o}, Machine.releaseWindow d tgt (s.accept d (commandWord 0x11 tgt up)) = .refused o →
      Refused s (.releaseWindow a tgt up) d o := fun hb => refused_of hA rfl rfl hb
  have bind : ∀ {o}, bindWindow d tgt (s.accept d (commandWord 0x12 tgt up)) = .refused o →
      Refused s (.bindWindow a tgt up) d o := fun hb => refused_of hA rfl rfl hb
  have revoke : ∀ {o}, revokeWindow d tgt (s.accept d (commandWord 0x13 tgt up)) = .refused o →
      Refused s (.revokeWindow a tgt up) d o := fun hb => refused_of hA rfl rfl hb
  have amend : ∀ {o}, amendWindow d tgt (s.accept d (commandWord 0x15 tgt up)) = .refused o →
      Refused s (.amendWindow a tgt up) d o := fun hb => refused_of hA rfl rfl hb
  have read : ∀ {o}, readWindow d tgt (s.accept d (commandWord 0x17 tgt up)) = .refused o →
      Refused s (.readWindow a tgt up) d o := fun hb => refused_of hA rfl rfl hb
  refine ⟨fun hn => ?_, fun hc => bind (bindWindow_badChannel (by rwa [taken_accept])), fun h w ht hw => ?_⟩
  · have hl := fun word => liveWindow_accept_none hn d word
    simp only [List.mem_cons, List.not_mem_nil, or_false, forall_eq_or_imp, forall_eq]
    exact ⟨release (releaseWindow_none (hl _)), bind (bindWindow_none (hl _)), revoke (revokeWindow_none (hl _)),
      amend (amendWindow_none (hl _)), read (readWindow_none (hl _))⟩
  have hl := fun word => liveWindow_accept ht hw d word
  have hc : ∀ {c : ChannelId} {word : Word}, bits (s.port d).params[0] 0 8 = c.val →
      bits ((s.accept d word).taken d)[0] 0 8 = c.val := fun h => by rwa [taken_accept]
  refine ⟨fun ho => ⟨release ?_, amend (amendWindow_notOwner (hl _) ho), fun hd => ?_⟩, fun c hp ho => bind ?_,
    fun c hp ho hco hst => bind ?_, fun ho hst => release ?_,
    fun ho hst => revoke (revokeWindow_offChain (hl _) ho (onChain_eq_false.mpr hst)),
    fun ho hp => read (readWindow_badPart (hl _) ho (by rwa [taken_accept])), fun ho hst hs => release ?_,
    fun ho hb => amend (amendWindow_bad (hl _) ho (by rwa [taken_accept])), fun x ho hx hlev hs => amend ?_⟩
  · rw [releaseWindow_live (hl _), if_pos ho]
  · simp only [List.mem_cons, List.not_mem_nil, or_false, forall_eq_or_imp, forall_eq]
    exact ⟨revoke (revokeWindow_notOwner (hl _) ho hd), read (readWindow_notOwner (hl _) ho hd)⟩
  · rw [bindWindow_live (hl _) (hc hp), State.accept_channel, if_pos ho]
  · simp [bindWindow_live (hl _) (hc hp), ho, hco, hst]
  · simp [releaseWindow_live (hl _), ho, engaged_eq_true.mpr hst]
  · simp [releaseWindow_live (hl _), ho, engaged_eq_false.mpr hst, inService_accept, hs]
  · rw [amendWindow_given (hl _) ho (by rwa [taken_accept]), inService_accept, if_pos ⟨hlev, hs⟩]

end Sys2Proof.Proofs

namespace Sys2Proof.Machine

/-! ## The move of a pending notice (R22) -/

theorem updList_lists (n : NoticeRecord) (l k : Level) (f : List Handle → List Handle) :
    (n.updList l f).lists[k] = if k = l then f n.lists[l] else n.lists[k] := getElem_set_fin _ _ _ _

@[simp] theorem leaveList_notice (s : State) (d e : DomainId) (l : Level) (h : Handle) :
    (s.leaveList d l h).notice e =
      if e = d then (s.notice d).updList l fun q => q.filter fun x => x != h else s.notice e := by
  simp [State.leaveList]

@[simp] theorem joinList_notice (s : State) (d e : DomainId) (l : Level) (h : Handle) :
    (s.joinList d l h).notice e = if e = d then (s.notice d).updList l fun q => q ++ [h] else s.notice e := by
  simp [State.joinList]

theorem moveNotice_unmoved {s : State} {h : Handle} {w : Window} {o : Option Level}
    (hn : o = w.level ∨ w.level = none ∨ s.pendingCauses h = 0) : s.moveNotice h w o = s := by
  unfold State.moveNotice
  split
  · rfl
  · next hc =>
    obtain h1 | h1 | h1 := hn
    · exact absurd (.inl h1.symm) hc
    · simp [h1]
    · exact absurd (.inr h1) hc

theorem moveNotice_to_level {s : State} {h : Handle} {w : Window} {l l' : Level} (hw : w.level = some l) (hl : l' ≠ l)
    (hc : s.pendingCauses h ≠ 0) :
    s.moveNotice h w (some l') = (s.leaveList w.owner l h).joinList w.owner l' h := by
  have hn : ¬ (w.level = some l' ∨ s.pendingCauses h = 0) := by
    rw [hw, Option.some.injEq, not_or]
    exact ⟨Ne.symm hl, hc⟩
  unfold State.moveNotice
  rw [if_neg hn, hw]

theorem moveNotice_to_none {s : State} {h : Handle} {w : Window} {l : Level} (hw : w.level = some l)
    (hc : s.pendingCauses h ≠ 0) : s.moveNotice h w none = (s.leaveList w.owner l h).setCauses h 0 := by
  have hn : ¬ (w.level = none ∨ s.pendingCauses h = 0) := by
    rw [hw, not_or]
    exact ⟨by simp, hc⟩
  unfold State.moveNotice
  rw [if_neg hn, hw]

/-- What a move of a pending notice from level `l` does: the lists of the owner, and with NONE the causes (R22). -/
structure NoticeMoved (s t : State) (h : Handle) (d : DomainId) (l : Level) (o : Option Level) : Prop where
  causes : t.pendingCauses h = if o = none then 0 else s.pendingCauses h
  otherCauses : OnlyCauses s t h
  otherNotices : OnlyNotice s t d
  service : (t.notice d).service = (s.notice d).service
  mask : (t.notice d).mask = (s.notice d).mask
  mode : (t.notice d).mode = (s.notice d).mode
  autoRetire : (t.notice d).autoRetire = (s.notice d).autoRetire
  lists : ∀ k : Level, (t.notice d).lists[k] =
    if k = l then (s.notice d).lists[k].filter fun y => y != h
    else if o = some k then (s.notice d).lists[k] ++ [h]
    else (s.notice d).lists[k]

theorem moveNotice_moved {s : State} {h : Handle} {w : Window} {l : Level} {o : Option Level} (hw : w.level = some l)
    (ho : o ≠ some l) (hc : s.pendingCauses h ≠ 0) : NoticeMoved s (s.moveNotice h w o) h w.owner l o := by
  cases o with
  | none =>
    rw [moveNotice_to_none hw hc]
    refine ⟨by simp, fun x hx => by simp [hx], fun x hx => by simp [hx], by simp [NoticeRecord.updList],
      by simp [NoticeRecord.updList], by simp [NoticeRecord.updList], by simp [NoticeRecord.updList], fun k => ?_⟩
    simp only [State.setCauses_notice, leaveList_notice, if_true, updList_lists, reduceCtorEq, if_false]
    split
    · next hk => rw [hk]
    · rfl
  | some l' =>
    have hl : l' ≠ l := fun hl => ho (by rw [hl])
    rw [moveNotice_to_level hw hl hc]
    refine ⟨by simp, fun x hx => by simp, fun x hx => by simp [hx], by simp [NoticeRecord.updList],
      by simp [NoticeRecord.updList], by simp [NoticeRecord.updList], by simp [NoticeRecord.updList], fun k => ?_⟩
    simp only [joinList_notice, leaveList_notice, if_true, updList_lists, Option.some.injEq]
    by_cases hk : k = l
    · subst hk
      simp [Ne.symm hl]
    · by_cases hk' : k = l'
      · subst hk'
        simp [hk]
      · simp [hk, hk', Ne.symm hk']

theorem frame_moveNotice (s : State) (h : Handle) (w : Window) (o : Option Level) :
    Frame s (s.moveNotice h w o) [.causes, .notices] := by
  unfold State.moveNotice
  split
  · exact Frame.refl s _
  · split
    · intro b hb
      cases b <;> first | rfl | exact absurd (by simp) hb
    · intro b hb
      cases b <;> first | rfl | exact absurd (by simp) hb
    · exact Frame.refl s _

end Sys2Proof.Machine
namespace Sys2Proof.Proofs

open Sys2Proof.Machine

/-- Settles O13, by the move of the pending notice. -/
theorem amendWindow : Obligations.AmendWindow := by
  intro s a d tgt up h w x hA ht hw ho hx hs
  subst ho
  have hx' : NotifyGiven ((s.accept w.owner (commandWord 0x15 tgt up)).taken w.owner)[0]
      ((s.accept w.owner (commandWord 0x15 tgt up)).taken w.owner)[1] x := by rwa [taken_accept]
  have hn : ¬ (x.level ≠ w.level ∧ s.inService h = true) := by
    rintro ⟨hl, hi⟩
    simp [hl, hi] at hs
  have hb : Machine.amendWindow w.owner tgt (s.accept w.owner (commandWord 0x15 tgt up)) =
      .done (((s.accept w.owner (commandWord 0x15 tgt up)).moveNotice h w x.level).setWindow h (some (w.amended x)))
        noResults := by
    rw [amendWindow_given (liveWindow_accept ht hw _ _) rfl hx', inService_accept, if_neg hn]
  have hf := frame_moveNotice (s.accept w.owner (commandWord 0x15 tgt up)) h w x.level
  refine ⟨_, exec_done hA rfl hb, answers_complete _ _ ?_, ?_, fun y hy => ?_, ?_, fun hc => ?_, fun l hl hxl hc => ?_⟩
  · exact hf .ports (by simp)
  · simp [Window.amended]
  · simp only [State.complete_window, State.setWindow_window, if_neg hy]
    rw [State.window, moveNotice_windows]
    rfl
  · exact Frame.complete (by simp) ((hf.mono (by simp)).trans ((Frame.setWindow _ h _).mono (by simp)))
  · have hm : (s.accept w.owner (commandWord 0x15 tgt up)).moveNotice h w x.level =
      s.accept w.owner (commandWord 0x15 tgt up) := moveNotice_unmoved hc
    rw [hm]
    exact ⟨rfl, rfl⟩
  · obtain ⟨h1, h2, h3, h4, h5, h6, h7, h8⟩ :=
      moveNotice_moved (s := s.accept w.owner (commandWord 0x15 tgt up)) hl hxl hc
    exact ⟨h1, h2, h3, h4, h5, h6, h7, h8⟩

end Sys2Proof.Proofs

namespace Sys2Proof.Machine

/-! ## The words a host reads (R178) -/

@[simp] theorem field_zero (lo : Nat) : field 0 lo = 0 := by simp [field]

@[simp] theorem flag_false (k : Nat) : flag false k = 0 := field_zero k

/-- An absent field reads 0 with its flag clear (R178). -/
theorem optionalField_eq {n : Nat} (v : Option (Fin n)) (lo k : Nat) :
    optionalField v lo k = (field (v.elim 0 Fin.val) lo ||| flag v.isSome k) := by
  cases v with
  | none => simp [optionalField]
  | some x => rfl

theorem getLsbD_channelSet (s : State) (p : DomainId → Bool) (c : ChannelId) :
    (s.channelSet p).getLsbD c.val = ((s.channel c).owner).any p := by
  have hl : (s.channelSet p).getLsbD c.val = (channelIds.map fun c => ((s.channel c).owner).any p).getD c.val false :=
    BitVec.getLsbD_ofBoolListLE
  rw [hl]
  simp [channelIds]

/-- A channel set is the channels that it names. -/
theorem channelSet_eq {s : State} {p : DomainId → Bool} {owned : ChannelSet}
    (h : ∀ c : ChannelId, owned.getLsbD c.val = ((s.channel c).owner).any p) : s.channelSet p = owned :=
  BitVec.eq_of_getLsbD_eq fun i hi => (getLsbD_channelSet s p ⟨i, hi⟩).trans (h ⟨i, hi⟩).symm

theorem levelCode_eq (l : Option Level) : levelCode l = l.elim 8 Fin.val := by
  cases l <;> rfl

theorem windowPart0_eq (w : Window) :
    windowPart0 w =
      words w.base
        (field w.count 0 ||| field w.size.bytes 17 ||| field w.step.code 20 ||| field w.direction.code 22 |||
          flag w.reload 24 ||| field w.state.code 25 ||| field w.owner.val 28 ||| field w.home.val 30)
        (field w.leaseLimit 0 ||| field (w.level.elim 8 Fin.val) 16 ||| flag w.onSpent 20 ||| flag w.onLap 21)
        (field w.tag.toNat 0) := by
  rw [← levelCode_eq]
  rfl

theorem windowPart1_eq (s : State) (h : Handle) (w : Window) :
    windowPart1 s h w =
      words w.address (field w.remaining 0 ||| field w.lease 20)
        (field w.laps 0 ||| field (w.channel.elim 0 Fin.val) 16 ||| flag w.channel.isSome 20 |||
          field ((s.nextOf h).elim 0 Fin.val) 24 ||| flag (s.nextOf h).isSome 30 ||| flag (s.inService h) 31)
        (field (s.pendingCauses h).toNat 0 ||| field (w.fault.elim 0 Failure.code) 8 ||| flag w.fault.isSome 10) := by
  have hcause : causeWord s h w =
      (field (s.pendingCauses h).toNat 0 ||| field (w.fault.elim 0 Failure.code) 8 ||| flag w.fault.isSome 10) := by
    unfold causeWord
    cases w.fault with
    | none => simp
    | some f => rw [BitVec.or_assoc]; rfl
  rw [windowPart1, hcause, countWord, linkWord, optionalField_eq, optionalField_eq]
  simp only [BitVec.or_assoc]

theorem domainResults_eq (s : State) (d : DomainId) (i : SlotId) :
    domainResults s d i =
      let r := (s.domain d).slots[i]
      words
        (field (s.domain d).state.code 0 ||| flag (s.domain d).clearing 3 ||| field (s.domain d).quota 4 |||
          field (s.domain d).held 12 ||| field (s.channelSet fun x => x == d).toNat 20)
        (field (s.notice d).mask.toNat 0 ||| field (s.notice d).mode.code 8 ||| flag (s.notice d).autoRetire 12 |||
          flag (s.note d) 16 ||| flag r.isSome 20 ||| flag (r.any fun y => y.read) 21 |||
          flag (r.any fun y => y.write) 22 ||| field (r.elim 0 fun y => y.homes) 24)
        (field (r.elim 0 fun y => y.first) 0) (field (r.elim 0 fun y => y.last) 0) := by
  unfold domainResults
  cases (s.domain d).slots[i] with
  | none => simp [domainWord, setupWord]
  | some r => rfl

theorem channelResults_eq (ch : Channel) :
    channelResults ch =
      words
        (field (ch.owner.elim 0 Fin.val) 0 ||| flag ch.owner.isSome 2 ||| field ch.state.code 3 |||
          field ch.mode.code 6 ||| field ch.cls.val 8 ||| field ch.burstLimit 10 ||| flag ch.masked 19 |||
          flag ch.soft 20 ||| flag ch.line 21 ||| flag ((ch.line && !ch.masked) || ch.soft) 22 |||
          flag ch.starved 23 ||| flag ch.disablePending 24)
        (field (ch.chain.head?.elim 0 Fin.val) 0 ||| flag ch.chain.head?.isSome 6 |||
          field (ch.chain.getLast?.elim 0 Fin.val) 8 ||| flag ch.chain.getLast?.isSome 14 |||
          field ch.chain.length 16 ||| field ch.burst 23)
        ch.moved
        (field (ch.stall.elim 0 fun x => x.window.val) 0 ||| field (ch.stall.elim 0 fun x => x.cause.code) 6 |||
          flag ch.stall.isSome 8) := by
  have hstall : stallWord ch =
      (field (ch.stall.elim 0 fun x => x.window.val) 0 ||| field (ch.stall.elim 0 fun x => x.cause.code) 6 |||
        flag ch.stall.isSome 8) := by
    unfold stallWord
    cases ch.stall <;> simp
  rw [channelResults, channelWord, chainSummaryWord, optionalField_eq, optionalField_eq, optionalField_eq, hstall]
  simp only [BitVec.or_assoc, Channel.effective]

theorem readDomain_own {s : State} {d x : DomainId} {t : BitVec 8} {i : SlotId} (hd : d = x ∨ d = 0)
    (ht : t.toNat = x.val) (hi : bits (s.taken d)[0] 0 8 = i.val) : readDomain d t s = .done s (domainResults s x i) := by
  have hn : ¬ (d ≠ 0 ∧ t.toNat ≠ d.val) := by
    rintro ⟨h0, hne⟩
    obtain rfl | h := hd
    · exact hne ht
    · exact h0 h
  rw [readDomain, if_neg hn, onDomain, ht, index?_val]
  show onSlot (s.taken d)[0] _ = _
  rw [onSlot, hi, index?_val]

theorem readChannel_own {s : State} {d : DomainId} {t : BitVec 8} {c : ChannelId} (ht : t.toNat = c.val)
    (ho : (s.channel c).owner = some d ∨ d = 0) :
    readChannel d t s =
      .done (s.updChannel c fun ch => { ch with starved := false }) (channelResults (s.channel c)) := by
  have hn : ¬ (d ≠ 0 ∧ (s.channel c).owner ≠ some d) := fun hh => ho.elim hh.2 hh.1
  rw [readChannel, ht, index?_val]
  exact if_neg hn

end Sys2Proof.Machine
namespace Sys2Proof.Proofs

open Sys2Proof.Machine

/-- Settles O14, by the layouts word for word. -/
theorem readCommands : Obligations.ReadCommands := by
  refine ⟨by decide, fun s a d tgt up hA => ⟨fun h w ht hw ho => ?_, fun x i r owned hd ht hi hr hown => ?_,
    fun c ch ht hc ho => ?_⟩⟩
  · have hl := liveWindow_accept ht hw d (commandWord 0x17 tgt up)
    refine ⟨fun hp => ?_, fun hp => ?_⟩
    · have hb := readWindow_part0 hl ho (by rwa [taken_accept])
      rw [windowPart0_eq] at hb
      exact ⟨_, exec_done hA rfl hb, answers_complete _ _ rfl, Frame.complete (by simp) (Frame.refl _ _)⟩
    · have hb := readWindow_part1 hl ho (by rwa [taken_accept])
      rw [windowPart1_eq] at hb
      exact ⟨_, exec_done hA rfl hb, answers_complete _ _ rfl, Frame.complete (by simp) (Frame.refl _ _)⟩
  · subst hr
    have hset : s.channelSet (fun y => y == x) = owned := channelSet_eq fun c => by
      rw [hown c]
      cases (s.channel c).owner <;> simp [Bool.beq_eq_decide_eq]
    have hb := readDomain_own (s := s.accept d (commandWord 0x4B tgt up)) (i := i) hd ht (by rwa [taken_accept])
    rw [domainResults_eq] at hb
    refine ⟨_, exec_done hA rfl hb, ?_, Frame.complete (by simp) (Frame.refl _ _)⟩
    rw [← hset]
    exact answers_complete _ _ rfl
  · subst hc
    have hb := readChannel_own (s := s.accept d (commandWord 0x28 tgt up)) ht (by rwa [State.accept_channel])
    rw [channelResults_eq] at hb
    exact ⟨_, exec_done hA rfl hb, answers_complete _ _ rfl, by simp, fun y hy => by simp [hy],
      Frame.complete (by simp) ((Frame.updChannel _ c _).mono (by simp))⟩

end Sys2Proof.Proofs

namespace Sys2Proof.Machine

/-! ## The fields of a word -/

theorem getLsbD_field (v lo i : Nat) : (field v lo).getLsbD i = (decide (lo ≤ i ∧ i < 32) && v.testBit (i - lo)) := by
  simp only [field, BitVec.getLsbD_shiftLeft, BitVec.getLsbD_ofNat]
  by_cases h1 : lo ≤ i <;> by_cases h2 : i < 32
  · simp [h1, h2, Nat.not_lt.mpr h1, show i - lo < 32 by omega]
  · simp [h1, h2]
  · simp [h1, h2, Nat.lt_of_not_le h1]
  · simp [h1, h2]

theorem testBit_bits (w : Word) (lo n i : Nat) : (bits w lo n).testBit i = (decide (i < n) && w.getLsbD (lo + i)) := by
  simp [bits]
  rfl

theorem bits_or (a b : Word) (lo n : Nat) : bits (a ||| b) lo n = bits a lo n ||| bits b lo n := by
  refine Nat.eq_of_testBit_eq fun i => ?_
  simp only [Nat.testBit_lor, testBit_bits, BitVec.getLsbD_or, Bool.and_or_distrib_left]

/-- A field read back where it was placed. -/
theorem bits_field_same {v lo n : Nat} (hv : v < 2 ^ n) (hn : lo + n ≤ 32) : bits (field v lo) lo n = v := by
  refine Nat.eq_of_testBit_eq fun i => ?_
  rw [testBit_bits, getLsbD_field]
  by_cases hi : i < n
  · simp [hi, show lo + i < 32 by omega]
  · have hf : v.testBit i = false :=
      Nat.testBit_lt_two_pow (Nat.lt_of_lt_of_le hv (Nat.pow_le_pow_right (by decide) (Nat.le_of_not_lt hi)))
    simp [hi, hf]

/-- A field reads 0 in a place that ends below it. -/
theorem bits_field_above {v k lo n : Nat} (hk : lo + n ≤ k) : bits (field v k) lo n = 0 := by
  refine Nat.eq_of_testBit_eq fun i => ?_
  rw [testBit_bits, getLsbD_field, Nat.zero_testBit]
  by_cases hi : i < n
  · simp [show ¬ (k ≤ lo + i) by omega]
  · simp [hi]

theorem testBit_of_lt {v m i : Nat} (hv : v < 2 ^ m) (hi : m ≤ i) : v.testBit i = false :=
  Nat.testBit_lt_two_pow (Nat.lt_of_lt_of_le hv (Nat.pow_le_pow_right (by decide) hi))

/-- A field of `m` bits reads 0 in a place that starts above it. -/
theorem bits_field_below {v k m lo n : Nat} (hv : v < 2 ^ m) (hk : k + m ≤ lo) : bits (field v k) lo n = 0 := by
  refine Nat.eq_of_testBit_eq fun i => ?_
  rw [testBit_bits, getLsbD_field, Nat.zero_testBit, testBit_of_lt hv (by omega)]
  simp

/-- One bit is a field of one bit. -/
theorem getLsbD_of_bits {w : Word} {k : Nat} {b : Bool} (h : bits w k 1 = b.toNat) : w.getLsbD k = b := by
  have hb := testBit_bits w k 1 0
  rw [h] at hb
  cases b <;> simpa using hb.symm

theorem UnitSize.bytes_lt (z : UnitSize) : z.bytes < 2 ^ 3 := by cases z <;> decide

theorem AddressStep.code_lt (x : AddressStep) : x.code < 2 ^ 2 := by cases x <;> decide

theorem Direction.code_lt (x : Direction) : x.code < 2 ^ 2 := by cases x <;> decide

theorem toNat_lt_two_pow (b : Bool) : b.toNat < 2 ^ 1 := by cases b <;> decide

theorem levelCode_lt (l : Option Level) : levelCode l < 2 ^ 4 := by
  cases l with
  | none => decide
  | some l =>
    have := l.isLt
    simp only [levelCode]
    omega

/-- The fields of the identity word that OPEN WINDOW reads in PARAM1. -/
theorem bits_identityWord {w : Window} (hc : w.count < 2 ^ 17) :
    bits (identityWord w) 0 17 = w.count ∧ bits (identityWord w) 17 3 = w.size.bytes ∧
      bits (identityWord w) 20 2 = w.step.code ∧ bits (identityWord w) 22 2 = w.direction.code ∧
      bits (identityWord w) 24 1 = w.reload.toNat := by
  have hz := w.size.bytes_lt
  have hs := w.step.code_lt
  have hd := w.direction.code_lt
  have hr := toNat_lt_two_pow w.reload
  simp only [identityWord, flag, bits_or]
  refine ⟨?_, ?_, ?_, ?_, ?_⟩
  · simp [bits_field_same hc, bits_field_above]
  · simp [bits_field_same hz, bits_field_above, bits_field_below hc]
  · simp [bits_field_same hs, bits_field_above, bits_field_below hc, bits_field_below hz]
  · simp [bits_field_same hd, bits_field_above, bits_field_below hc, bits_field_below hz, bits_field_below hs]
  · simp [bits_field_same hr, bits_field_above, bits_field_below hc, bits_field_below hz, bits_field_below hs,
      bits_field_below hd]

/-- The fields of the notify word that OPEN WINDOW and AMEND WINDOW read. -/
theorem bits_notifyWord {w : Window} (hl : w.leaseLimit < 2 ^ 16) :
    bits (notifyWord w) 0 16 = w.leaseLimit ∧ bits (notifyWord w) 16 4 = levelCode w.level ∧
      bits (notifyWord w) 20 1 = w.onSpent.toNat ∧ bits (notifyWord w) 21 1 = w.onLap.toNat := by
  have hv := levelCode_lt w.level
  have hs := toNat_lt_two_pow w.onSpent
  have hp := toNat_lt_two_pow w.onLap
  simp only [notifyWord, flag, bits_or]
  refine ⟨?_, ?_, ?_, ?_⟩
  · simp [bits_field_same hl, bits_field_above]
  · simp [bits_field_same hv, bits_field_above, bits_field_below hl]
  · simp [bits_field_same hs, bits_field_above, bits_field_below hl, bits_field_below hv]
  · simp [bits_field_same hp, bits_field_below hl, bits_field_below hv, bits_field_below hs]

theorem tag_tagWord (w : Window) : (tagWord w).extractLsb' 0 16 = w.tag :=
  BitVec.eq_of_toNat_eq (bits_field_same (v := w.tag.toNat) (lo := 0) w.tag.isLt (by decide))

end Sys2Proof.Machine
namespace Sys2Proof.Proofs

open Sys2Proof.Machine

/-- Settles O60: every field of the setting is read back from its own place in the words. -/
theorem settingReadBack : Obligations.SettingReadBack := by
  intro w hw
  obtain ⟨⟨h1, hc⟩, -, -, -, -, -, ⟨-, hl⟩, -⟩ := hw
  obtain ⟨hcount, hsize, hstep, hdir, hreload⟩ := bits_identityWord (w := w) (Nat.lt_of_le_of_lt hc (by decide))
  obtain ⟨hlease, hlevel, hspent, hlap⟩ := bits_notifyWord (w := w) (Nat.lt_of_le_of_lt hl (by decide))
  rw [decodeSetting_eq_some]
  exact ⟨rfl, hsize, hstep, hdir, hcount.symm, h1, hc, (getLsbD_of_bits hreload).symm,
    hlease.symm, hl, hlevel.trans (levelCode_eq w.level), (getLsbD_of_bits hspent).symm, (getLsbD_of_bits hlap).symm,
    (tag_tagWord w).symm⟩

end Sys2Proof.Proofs

namespace Sys2Proof.Machine

/-! ## The unit in flight and its window's extent -/

/-- The lanes of the layouts are those of the table of R69, remainder by remainder. -/
theorem lanesFor_unitLanes (a : Address) (size : UnitSize) : LanesFor a size (unitLanes a size) := by
  intro ha k
  have hone : ∀ m k : Fin 4, (1#4 <<< m.val).getLsbD k.val = decide (m.val ≤ k.val ∧ k.val < m.val + 1) := by decide
  have htwo : ∀ m k : Fin 4, m.val % 2 = 0 →
      (3#4 <<< m.val).getLsbD k.val = decide (m.val ≤ k.val ∧ k.val < m.val + 2) := by decide
  have hm : a.toNat % 4 < 4 := Nat.mod_lt _ (by decide)
  cases size with
  | one => exact hone ⟨a.toNat % 4, hm⟩ k
  | two =>
    have h2 : a.toNat % 2 = 0 := ha
    exact htwo ⟨a.toNat % 4, hm⟩ k (by dsimp only; omega)
  | four =>
    have h4 : a.toNat % 4 = 0 := ha
    have hfour : ∀ k : Fin 4, (15#4).getLsbD k.val = decide (0 ≤ k.val ∧ k.val < 0 + 4) := by decide
    rw [h4]
    exact hfour k

theorem inSpace_iff {x : Setting} : x.inSpace = true ↔ 0 ≤ x.lowest ∧ x.highest ≤ 4294967295 := by
  rw [Setting.inSpace, Bool.and_eq_true, decide_eq_true_iff, decide_eq_true_iff, Config.maxAddress]

/-- A window with a unit left presents that unit inside its extent (R2, R4). -/
theorem unit_in_extent {w : Window} (hw : WindowSound w) (hr : 1 ≤ w.remaining) :
    w.setting.lowest ≤ w.address.toNat ∧ (w.address.toNat + w.size.bytes - 1 : Int) ≤ w.setting.highest := by
  obtain ⟨-, hle, -, haddr, -, -, -, -, -, hspace, -⟩ := hw
  obtain ⟨hlow, hhigh⟩ := inSpace_iff.mp hspace
  have hbase : w.base.toNat < 2 ^ 32 := w.base.isLt
  obtain ⟨n, hn⟩ : ∃ n, n = (w.count - w.remaining) * w.size.bytes := ⟨_, rfl⟩
  have hspan : n + w.size.bytes ≤ w.count * w.size.bytes := by
    rw [hn, ← Nat.succ_mul]
    exact Nat.mul_le_mul_right _ (by omega)
  have hspanInt : (n : Int) + w.size.bytes ≤ (w.count : Int) * w.size.bytes := by exact_mod_cast hspan
  have hbytes : 1 ≤ w.size.bytes := by cases w.size <;> decide
  have hdown : ((w.count : Int) - 1) * w.size.bytes = (w.count : Int) * w.size.bytes - w.size.bytes := by ring
  rw [haddr]
  simp only [Window.setting, Setting.lowest, Setting.highest, Window.addressFor, ← hn] at hlow hhigh ⊢
  cases hs : w.step <;> simp only [hs, hdown] at hlow hhigh ⊢
  · rw [BitVec.toNat_add, BitVec.toNat_ofNat, Nat.mod_eq_of_lt (by omega : n < 2 ^ 32),
      Nat.mod_eq_of_lt (by omega)]
    omega
  · rw [BitVec.toNat_sub, BitVec.toNat_ofNat, Nat.mod_eq_of_lt (by omega : n < 2 ^ 32)]
    omega
  · omega

end Sys2Proof.Machine
namespace Sys2Proof.Proofs

open Sys2Proof.Machine

/-- Settles O59: the unit is its window's, the window has a unit left, and its home slot qualifies. -/
theorem unitInsideHomeRange : Obligations.UnitInsideHomeRange := by
  intro s u hsound hhomed hstruct hu
  obtain ⟨-, -, -, -, ⟨-, hunit, -⟩, -⟩ := hstruct
  obtain ⟨-, w, hw, -, howner, ⟨hdir, hsize, haddr, hlanes, -⟩, hstate⟩ := hunit u hu
  obtain ⟨r, hslot, hq⟩ := hhomed u.window w hw
  have hws : WindowSound w := (hsound u.window w hw).1
  have hmid : w.state ≠ .spent := by
    obtain ⟨h, -⟩ | ⟨h, -⟩ := hstate <;> simp [h]
  obtain ⟨-, -, hspent, -, -, -, -, -, -, hspace, -⟩ := id hws
  have hrem : 1 ≤ w.remaining := Nat.one_le_iff_ne_zero.mpr fun h => hmid (hspent.mp h)
  obtain ⟨hfirst, hlast, hwrite, hread⟩ := (qualifies_iff r w.setting).mp hq
  obtain ⟨hlow, hhigh⟩ := unit_in_extent hws hrem
  have hlowest : 0 ≤ w.setting.lowest := (inSpace_iff.mp hspace).1
  refine ⟨w, r, hw, howner, hmid, hdir, hsize, haddr, ?_, ?_, ?_, hslot, ?_, ?_, ?_, ?_⟩
  · rw [hlanes]
    exact lanesFor_unitLanes _ _
  · rw [haddr]
    exact hlow
  · rw [haddr, hsize]
    exact hhigh
  · omega
  · omega
  · rw [hdir]
    exact hwrite
  · rw [hdir]
    exact hread

end Sys2Proof.Proofs

namespace Sys2Proof.Machine

/-! ## The start of a teardown, block by block -/

theorem inFlight_iff {s : State} {h : Handle} : s.inFlight h = true ↔ ∃ u, s.memory.record = some u ∧ u.window = h := by
  unfold State.inFlight
  cases s.memory.record with
  | none => simp
  | some u => simp

theorem keptInTeardown_iff {s : State} {h : Handle} {w : Window} :
    s.keptInTeardown h w = true ↔ w.state = .draining ∨ (w.state = .active ∧ s.inFlight h = true) := by
  simp [State.keptInTeardown]

theorem beginTeardown_pendingCauses (s : State) (ds : DomainId → Bool) (h : Handle) :
    (s.beginTeardown ds).pendingCauses h =
      if (s.window h).any fun w => ds w.owner then 0 else s.pendingCauses h := getElem_ofFn_fin _ _

theorem beginTeardown_channel (s : State) (ds : DomainId → Bool) (c : ChannelId) :
    (s.beginTeardown ds).channel c = tornChannel ds (s.channel c) := getElem_ofFn_fin _ _

theorem beginTeardown_notice (s : State) (ds : DomainId → Bool) (d : DomainId) :
    (s.beginTeardown ds).notice d = if ds d then tornNotice d (s.notice d) else s.notice d := getElem_ofFn_fin _ _

theorem beginTeardown_port (s : State) (ds : DomainId → Bool) (d : DomainId) :
    (s.beginTeardown ds).port d = if ds d then tornPort d (s.port d) else s.port d := getElem_ofFn_fin _ _

theorem channelAtReset_released (ch : Channel) : ChannelAtReset ch.released ∧ ch.released.line = ch.line :=
  ⟨⟨rfl, rfl, rfl, rfl, rfl, rfl, rfl, rfl, rfl, rfl, rfl, rfl, rfl⟩, rfl⟩

theorem tornChannel_other {ds : DomainId → Bool} {ch : Channel} (h : ∀ d, ch.owner = some d → ds d = false) :
    tornChannel ds ch = ch := by
  unfold tornChannel
  cases ho : ch.owner with
  | none => rfl
  | some d => simp [h d ho]

theorem tornChannel_moving {ds : DomainId → Bool} {ch : Channel} {d : DomainId} (ho : ch.owner = some d)
    (hd : ds d = true) (hm : ch.state = .moving) : tornChannel ds ch = { ch with chain := [], disablePending := false } := by
  simp [tornChannel, ho, hd, hm]

theorem tornChannel_idle {ds : DomainId → Bool} {ch : Channel} {d : DomainId} (ho : ch.owner = some d)
    (hd : ds d = true) (hm : ch.state ≠ .moving) : tornChannel ds ch = ch.released := by
  simp [tornChannel, ho, hd, hm]

theorem noticesAtReset_reset : NoticesAtReset NoticeRecord.reset := by decide

theorem tornNotice_reset {d : DomainId} (hd : d ≠ 0) (n : NoticeRecord) : NoticesAtReset (tornNotice d n) := by
  rw [tornNotice, if_neg hd]
  exact noticesAtReset_reset

theorem tornNotice_empty (d : DomainId) (n : NoticeRecord) (l : Level) :
    (tornNotice d n).lists[l] = [] ∧ (tornNotice d n).service[l] = none := by
  obtain ⟨-, -, -, hl, hs⟩ := noticesAtReset_reset
  unfold tornNotice
  split <;> exact ⟨hl l, hs l⟩

/-- A state that has the windows, causes, channels, notice records and the ports of domains 1 to 3 of the start of a
teardown is what the statements call its beginning. -/
theorem teardownBegun_of {s m : State} {ds : DomainId → Bool} (hw : m.windows = (s.beginTeardown ds).windows)
    (hc : m.causes = (s.beginTeardown ds).causes) (hch : m.channels = (s.beginTeardown ds).channels)
    (hn : m.notices = (s.beginTeardown ds).notices)
    (hp : ∀ d, d ≠ 0 → m.port d = (s.beginTeardown ds).port d) : TeardownBegun s m ds := by
  have hwindow : ∀ h, m.window h = s.tornWindow ds h (s.window h) := fun h => by
    rw [State.window, hw]
    exact beginTeardown_window s ds h
  refine ⟨fun h => ⟨fun hnone => ?_, fun w hsome => ⟨?_, ?_⟩⟩, fun c => ?_, fun d => ?_, fun d hd => ?_⟩
  · rw [hwindow, hnone]
    rfl
  · rw [hwindow, hsome]
    cases hd : ds w.owner with
    | false => simp [State.tornWindow, hd]
    | true => simp [State.tornWindow, hd, keptInTeardown_iff]
  · rw [State.pendingCauses, hc]
    refine (beginTeardown_pendingCauses s ds h).trans ?_
    rw [hsome]
    rfl
  · have hchannel : m.channel c = tornChannel ds (s.channel c) := by
      rw [State.channel, hch]
      exact beginTeardown_channel s ds c
    rw [hchannel]
    refine ⟨tornChannel_other, fun d ho hd => ⟨tornChannel_moving ho hd, fun hm => ?_⟩⟩
    rw [tornChannel_idle ho hd hm]
    exact channelAtReset_released _
  · have hnotice : m.notice d = if ds d then tornNotice d (s.notice d) else s.notice d := by
      rw [State.notice, hn]
      exact beginTeardown_notice s ds d
    rw [hnotice]
    refine ⟨fun hd => by simp [hd], fun hd => ?_⟩
    rw [hd, if_pos rfl]
    refine ⟨fun h0 => tornNotice_reset h0 _, tornNotice_empty d _, ?_⟩
    rintro rfl
    exact ⟨rfl, rfl, rfl⟩
  · rw [hp d hd, beginTeardown_port]
    by_cases hds : ds d = true
    · by_cases hb : (s.port d).busy = true <;> simp [hds, hb, tornPort, hd, Port.completed]
    · simp [hds]

/-! ## What a teardown finds in a sound structure -/

theorem unitsOf_eq_zero {s : State} {d : DomainId} :
    s.unitsOf d = 0 ↔ ∀ c : ChannelId, (s.channel c).owner = some d → (s.channel c).state ≠ .moving := by
  simp [State.unitsOf, channelIds]

theorem unitsOf_of_moving {s : State} {d : DomainId} {c : ChannelId} (ho : (s.channel c).owner = some d)
    (hm : (s.channel c).state = .moving) : s.unitsOf d = 1 := by
  unfold State.unitsOf
  rw [if_pos]
  exact List.any_eq_true.mpr ⟨c, List.mem_finRange c, by simp [ho, hm]⟩

/-- No domain is under teardown while domain 0's port is not busy (R152, R156). -/
theorem clearing_eq_false {s : State} (hw : WaitersSound s) (hb : (s.port 0).busy = false) (d : DomainId) :
    (s.domain d).clearing = false := by
  obtain ⟨-, -, hclear⟩ := hw
  by_contra hc
  have ht := hclear d (by simpa using hc)
  have hn : (s.port 0).waiting = none := by simpa [Port.busy] using hb
  simp [Port.inTeardown, hn] at ht

theorem awaited_eq_zero {s : State} (ht : TeardownSound s) {d : DomainId} (hc : (s.domain d).clearing = false) :
    (s.domain d).awaited = 0 := by
  obtain ⟨-, -, haw, -⟩ := ht
  simpa [hc] using haw d

/-- A domain that owns a window or a channel is OPEN while none is under teardown (R137). -/
theorem opened_of_not_clearing {s : State} (hp : PortsAgree s) {d : DomainId} (hc : (s.domain d).clearing = false)
    (hn : (s.domain d).state ≠ .closed) : (s.domain d).state = .opened := by
  obtain ⟨h0, hclosing, -⟩ := hp
  by_cases hd : d = 0
  · subst hd
    exact h0
  · cases hs : (s.domain d).state with
    | opened => rfl
    | closing => simp [(hclosing d hd).mpr hs] at hc
    | closed => exact absurd hs hn

/-- The one window that a teardown keeps is the unit's in flight, and the unit's channel is MOVING and of the window's owner
(R67, R93, R100). -/
theorem kept_is_unit {s : State} (hh : HolderMoves s) (hu : UnitSound s) {h : Handle} (hk : s.keptHandle h = true) :
    ∃ u w, s.memory.record = some u ∧ u.window = h ∧ s.window h = some w ∧
      (s.channel u.channel).owner = some w.owner ∧ (s.channel u.channel).state = .moving := by
  obtain ⟨hmoving, hholder⟩ := hh
  obtain ⟨-, hunit, hdrain⟩ := hu
  obtain ⟨w, hw, hk⟩ := (Option.any_eq_true _ _).mp hk
  have hf : s.inFlight h = true := by
    obtain hd | ⟨-, hf⟩ := keptInTeardown_iff.mp hk
    · exact hdrain h w hw hd
    · exact hf
  obtain ⟨u, hrec, rfl⟩ := inFlight_iff.mp hf
  obtain ⟨-, v, hv, -, howner, -⟩ := hunit u hrec
  rw [Option.mem_def, hw] at hv
  cases hv
  exact ⟨u, w, hrec, rfl, hw, howner, (hmoving u.channel).mpr (hholder u hrec)⟩

/-- A MOVING channel has the unit in flight, against a window of its owner that a teardown keeps (R53, R67, R93). -/
theorem moving_has_unit {s : State} (hh : HolderMoves s) (hu : UnitSound s) {c : ChannelId} {d : DomainId}
    (hm : (s.channel c).state = .moving) (ho : (s.channel c).owner = some d) :
    ∃ u w, s.memory.record = some u ∧ u.channel = c ∧ s.window u.window = some w ∧ w.owner = d ∧
      s.keptInTeardown u.window w = true := by
  obtain ⟨hmoving, hholder⟩ := hh
  obtain ⟨hboth, hunit, -⟩ := hu
  have hc := (hmoving c).mp hm
  obtain ⟨u, hrec⟩ := Option.isSome_iff_exists.mp (hboth.mp (by simp [hc]))
  have huc : u.channel = c := by
    have := hholder u hrec
    rw [hc] at this
    exact (Option.some.inj this).symm
  obtain ⟨-, w, hw, -, howner, -, hstate⟩ := hunit u hrec
  rw [huc, ho] at howner
  refine ⟨u, w, hrec, huc, hw, (Option.some.inj howner).symm, keptInTeardown_iff.mpr ?_⟩
  obtain ⟨ha, -⟩ | ⟨hd, -⟩ := hstate
  · exact .inr ⟨ha, inFlight_iff.mpr ⟨u, hrec, rfl⟩⟩
  · exact .inl hd

/-- A domain without a MOVING channel has no window that its teardown keeps. -/
theorem not_kept_of_no_unit {s : State} (hh : HolderMoves s) (hu : UnitSound s) {d : DomainId} (hz : s.unitsOf d = 0)
    {h : Handle} {w : Window} (hw : s.window h = some w) (ho : w.owner = d) : s.keptHandle h = false := by
  by_contra hk
  obtain ⟨u, v, -, -, hv, howner, hm⟩ := kept_is_unit hh hu (by simpa using hk)
  rw [hw] at hv
  cases hv
  exact unitsOf_eq_zero.mp hz u.channel (ho ▸ howner) hm

theorem kept_owned_of_no_unit {s : State} (hh : HolderMoves s) (hu : UnitSound s) {d : DomainId}
    (hz : s.unitsOf d = 0) : (s.ownedWindows d).filter s.keptHandle = [] := by
  refine List.filter_eq_nil_iff.mpr fun h hm => ?_
  obtain ⟨w, hw, ho⟩ := mem_ownedWindows.mp hm
  simp [not_kept_of_no_unit hh hu hz hw ho]

theorem kept_homed_of_no_unit {s : State} (hh : HolderMoves s) (hu : UnitSound s) {d : DomainId}
    (hz : s.unitsOf d = 0) (i : SlotId) : (s.homedWindows d i).filter s.keptHandle = [] := by
  refine List.filter_eq_nil_iff.mpr fun h hm => ?_
  obtain ⟨w, hw, ho, -⟩ := mem_homedWindows.mp hm
  simp [not_kept_of_no_unit hh hu hz hw ho]

/-- A duplicate-free list whose one member is `h`. -/
theorem length_eq_one_of_mem {l : List Handle} (hl : l.Nodup) {h : Handle} (hm : ∀ x, x ∈ l ↔ x = h) : l.length = 1 := by
  have hp : l.Perm [h] := (List.perm_ext_iff_of_nodup hl (List.nodup_singleton h)).mpr fun x => by simp [hm]
  exact hp.length_eq

theorem keptHandle_unit {s : State} {u : UnitRecord} {w : Window} (hw : s.window u.window = some w)
    (hk : s.keptInTeardown u.window w = true) : s.keptHandle u.window = true := by
  simp [State.keptHandle, hw, hk]

/-- Only the unit's window is kept. -/
theorem eq_unit_of_kept {s : State} (hh : HolderMoves s) (hu : UnitSound s) {u : UnitRecord}
    (hrec : s.memory.record = some u) {h : Handle} (hk : s.keptHandle h = true) : h = u.window := by
  obtain ⟨v, w, hv, rfl, -⟩ := kept_is_unit hh hu hk
  rw [hrec] at hv
  cases hv
  rfl

theorem kept_owned_of_unit {s : State} (hh : HolderMoves s) (hu : UnitSound s) {u : UnitRecord} {w : Window}
    (hrec : s.memory.record = some u) (hw : s.window u.window = some w)
    (hk : s.keptInTeardown u.window w = true) : ((s.ownedWindows w.owner).filter s.keptHandle).length = 1 := by
  refine length_eq_one_of_mem ((nodup_ownedWindows s w.owner).filter _) (h := u.window) fun x => ?_
  rw [List.mem_filter]
  constructor
  · exact fun hx => eq_unit_of_kept hh hu hrec hx.2
  · rintro rfl
    exact ⟨mem_ownedWindows.mpr ⟨w, hw, rfl⟩, keptHandle_unit hw hk⟩

theorem kept_homed_of_unit {s : State} (hh : HolderMoves s) (hu : UnitSound s) {u : UnitRecord} {w : Window}
    (hrec : s.memory.record = some u) (hw : s.window u.window = some w)
    (hk : s.keptInTeardown u.window w = true) (i : SlotId) :
    ((s.homedWindows w.owner i).filter s.keptHandle).length = if i = w.home then 1 else 0 := by
  split
  · next hi =>
    subst hi
    refine length_eq_one_of_mem ((nodup_homedWindows s w.owner w.home).filter _) (h := u.window) fun x => ?_
    rw [List.mem_filter]
    constructor
    · exact fun hx => eq_unit_of_kept hh hu hrec hx.2
    · rintro rfl
      exact ⟨mem_homedWindows.mpr ⟨w, hw, rfl, rfl⟩, keptHandle_unit hw hk⟩
  · next hi =>
    refine List.length_eq_zero_iff.mpr (List.filter_eq_nil_iff.mpr fun x hm hx => ?_)
    obtain rfl := eq_unit_of_kept hh hu hrec hx
    obtain ⟨v, hv, -, hhome⟩ := mem_homedWindows.mp hm
    rw [hw] at hv
    cases hv
    exact hi hhome.symm

/-! ## A domain record at the start of its teardown -/

/-- A slot without a home at the start of a teardown: absent in domains 1 to 3, and kept in domain 0 (R152, R156). -/
theorem emptyUnused_no_homes (d : DomainId) (o : Option RangeSlot) :
    (o.bind fun r => emptyUnused d { r with homes := 0 }) =
      if d = 0 then o.map fun r => { r with homes := 0 } else none := by
  cases o with
  | none => simp
  | some r => by_cases hd : d = 0 <;> simp [emptyUnused, hd]

/-- A domain without a unit in flight holds nothing once its teardown has begun, its slots apart in domain 0. -/
theorem tornDomain_no_unit {s : State} (hc : CountsAgree s) (hh : HolderMoves s) (hu : UnitSound s) {d : DomainId}
    (hz : s.unitsOf d = 0) :
    (s.tornDomain d (s.domain d)).held = 0 ∧ (s.tornDomain d (s.domain d)).awaited = 0 ∧
      ∀ i : SlotId, (s.tornDomain d (s.domain d)).slots[i] =
        if d = 0 then ((s.domain d).slots[i]).map fun r => { r with homes := 0 } else none := by
  refine ⟨?_, hz, fun i => ?_⟩
  · rw [tornDomain_held hc, kept_owned_of_no_unit hh hu hz]
    rfl
  · rw [tornDomain_slot hc, kept_homed_of_no_unit hh hu hz i]
    exact emptyUnused_no_homes d _

/-- The domain of the unit in flight once its teardown has begun (R153, R156). -/
theorem awaitsUnit_of {s m : State} (hc : CountsAgree s) (hh : HolderMoves s) (hu : UnitSound s)
    {ds : DomainId → Bool} {u : UnitRecord} {w : Window} (hrec : s.memory.record = some u)
    (hw : s.window u.window = some w) (hk : s.keptInTeardown u.window w = true) (hm : s.unitsOf w.owner = 1)
    (hds : ds w.owner = true) (hd : m.domain w.owner = s.tornDomain w.owner (s.domain w.owner))
    (hwin : m.windows = (s.beginTeardown ds).windows) : AwaitsUnit s m w.owner := by
  have hmw : m.window u.window = some { w with state := .draining } := by
    rw [State.window, hwin]
    exact beginTeardown_live.mpr ⟨w, hw, .inr ⟨hds, hk, rfl⟩⟩
  obtain ⟨r, hr⟩ : ∃ r, (s.domain w.owner).slots[w.home] = some r := by
    have hpos := List.length_pos_of_mem (mem_homedWindows.mpr ⟨w, hw, rfl, rfl⟩)
    have hcount := (hc w.owner).2 w.home
    cases hs : (s.domain w.owner).slots[w.home] with
    | none =>
      rw [hs, Option.elim_none] at hcount
      omega
    | some r => exact ⟨r, rfl⟩
  refine ⟨by rw [hd]; rfl, by rw [hd]; exact hm, by rw [hd]; rfl, ?_, u, { w with state := .draining }, r, hrec, hmw, rfl,
    rfl, hr, ?_, fun i hi => ?_⟩
  · rw [hd, tornDomain_held hc, kept_owned_of_unit hh hu hrec hw hk]
  · show (m.domain w.owner).slots[w.home] = _
    rw [hd, tornDomain_slot hc, hr, kept_homed_of_unit hh hu hrec hw hk, if_pos rfl, Option.bind_some]
    exact emptyUnused_eq_some (.inr Nat.one_pos)
  · have hi' : i ≠ w.home := hi
    rw [hd, tornDomain_slot hc, kept_homed_of_unit hh hu hrec hw hk, if_neg hi']
    exact emptyUnused_no_homes _ _

/-! ## The completion or the wait of a teardown -/

theorem noneAwaited_beginTeardown {s : State} {ds : DomainId → Bool} (haw : ∀ d, (s.domain d).awaited = 0) :
    (s.beginTeardown ds).noneAwaited = true ↔ ∀ d, ds d = true → s.unitsOf d = 0 := by
  simp only [State.noneAwaited, domainIds, List.all_eq_true, List.mem_finRange, true_implies, beq_iff_eq,
    beginTeardown_domain]
  refine forall_congr' fun d => ?_
  cases hd : ds d with
  | false => simp [haw d]
  | true => simp [State.tornDomain]

theorem finishedDomain_not_clearing {d : DomainId} {x : Domain} (h : x.clearing = false) : finishedDomain d x = x := by
  simp [finishedDomain, h]

theorem finishedDomain_closes {d : DomainId} {x : Domain} (h : x.clearing = true) (hd : d ≠ 0) :
    finishedDomain d x = { x with state := .closed, quota := 0, clearing := false } := by
  simp [finishedDomain, h, hd]

theorem finishedDomain_supervisor {x : Domain} (h : x.clearing = true) :
    finishedDomain 0 x = { x with clearing := false } := by
  simp [finishedDomain, h]

end Sys2Proof.Machine

namespace Sys2Proof.Machine

/-- A state at which a teardown begins: that of the command's write, with the word accepted at aperture 0; the run state may
have been set (R66, R161). -/
structure AcceptedAtZero (s b : State) (word : Word) : Prop where
  windows : b.windows = s.windows
  causes : b.causes = s.causes
  channels : b.channels = s.channels
  domains : b.domains = s.domains
  notices : b.notices = s.notices
  memory : b.memory = s.memory
  portZero : b.port 0 = { s.port 0 with commandWord := word, taken := (s.port 0).params }
  ports : ∀ d, d ≠ 0 → b.port d = s.port d

theorem acceptedAtZero_accept (s : State) (word : Word) : AcceptedAtZero s (s.accept 0 word) word where
  windows := rfl
  causes := rfl
  channels := rfl
  domains := rfl
  notices := rfl
  memory := rfl
  portZero := by rw [port_accept, if_pos rfl]
  ports := fun d hd => by rw [port_accept, if_neg hd]

theorem acceptedAtZero_running (s : State) (word : Word) (k : Arbiter) :
    AcceptedAtZero s { s.accept 0 word with arbiter := k } word where
  windows := rfl
  causes := rfl
  channels := rfl
  domains := rfl
  notices := rfl
  memory := rfl
  portZero := (acceptedAtZero_accept s word).portZero
  ports := (acceptedAtZero_accept s word).ports

/-- The state `v` is the start of a teardown of `s` in the windows, causes, channels and notice records and in the ports of
domains 1 to 3; the port of domain 0 holds the command's word. -/
structure Torn (s v : State) (ds : DomainId → Bool) (word : Word) : Prop where
  windows : v.windows = (s.beginTeardown ds).windows
  causes : v.causes = (s.beginTeardown ds).causes
  channels : v.channels = (s.beginTeardown ds).channels
  notices : v.notices = (s.beginTeardown ds).notices
  portZero : v.port 0 = { s.port 0 with commandWord := word, taken := (s.port 0).params }
  ports : ∀ d, d ≠ 0 → v.port d = (s.beginTeardown ds).port d

section
variable {s b : State} {word : Word}

theorem AcceptedAtZero.beginTeardown (h : AcceptedAtZero s b word) (ds : DomainId → Bool) :
    Torn s (b.beginTeardown ds) ds word where
  windows := by
    simp only [State.beginTeardown, State.tornWindow, State.keptInTeardown, State.inFlight, State.window, h.windows,
      h.memory] <;> rfl
  causes := by
    simp only [State.beginTeardown, State.window, State.pendingCauses, h.windows, h.causes] <;> rfl
  channels := by simp only [State.beginTeardown, State.channel, h.channels]
  notices := by simp only [State.beginTeardown, State.notice, h.notices]
  portZero := by
    rw [beginTeardown_port, h.portZero]
    cases ds 0 <;> rfl
  ports := fun d hd => by rw [beginTeardown_port, beginTeardown_port, h.ports d hd]

theorem AcceptedAtZero.beginTeardown_domain (h : AcceptedAtZero s b word) (ds : DomainId → Bool) (d : DomainId) :
    (b.beginTeardown ds).domain d = (s.beginTeardown ds).domain d := by
  simp only [State.beginTeardown, State.tornDomain, State.freedAtOnce, State.ownedWindows, State.unitsOf,
    State.keptInTeardown, State.inFlight, State.window, State.channel, State.domain, h.windows, h.channels, h.domains,
    h.memory] <;> rfl

theorem AcceptedAtZero.results (h : AcceptedAtZero s b word) (ds : DomainId → Bool) :
    b.tornCount ds = s.tornCount ds ∧ b.channelSet ds = s.channelSet ds := by
  constructor
  · simp only [State.tornCount, State.window, h.windows]
  · exact channelSet_eq fun c => by rw [getLsbD_channelSet, State.channel, State.channel, h.channels]

theorem AcceptedAtZero.noneAwaited (h : AcceptedAtZero s b word) (ds : DomainId → Bool) :
    (b.beginTeardown ds).noneAwaited = (s.beginTeardown ds).noneAwaited := by
  simp only [State.noneAwaited, h.beginTeardown_domain]

end

theorem frame_beginTeardown (s : State) (ds : DomainId → Bool) :
    Frame s (s.beginTeardown ds) [.windows, .causes, .channels, .domains, .notices, .ports] := by
  intro b hb
  cases b
  case windows | causes | channels | domains | notices | ports => exact absurd (by simp) hb
  all_goals simp [SameIn, State.beginTeardown]

theorem frame_finishDomains (s : State) : Frame s s.finishDomains [.domains] := by
  intro b hb
  cases b <;> first | rfl | exact absurd (by simp) hb

/-- A teardown with no unit of its domains in flight completes at once (R154, R157). -/
theorem tearDown_completes {s b : State} {word : Word} (h : AcceptedAtZero s b word) {ds : DomainId → Bool}
    (k : Nat → ChannelSet → Waiting) (haw : ∀ d, (s.domain d).awaited = 0)
    (hz : ∀ d, ds d = true → s.unitsOf d = 0) :
    ∃ v, b.tearDown ds k = .done v (teardownResults (s.tornCount ds) (s.channelSet ds)) ∧ Torn s v ds word ∧
      (∀ d, v.domain d = finishedDomain d ((s.beginTeardown ds).domain d)) ∧
      Frame b v [.windows, .causes, .channels, .domains, .notices, .ports] := by
  have hn : (b.beginTeardown ds).noneAwaited = true := by
    rw [h.noneAwaited]
    exact (noneAwaited_beginTeardown haw).mpr hz
  have ht := h.beginTeardown ds
  refine ⟨(b.beginTeardown ds).finishDomains, ?_, ?_, fun d => ?_, ?_⟩
  · rw [← (h.results ds).1, ← (h.results ds).2]
    exact if_pos hn
  · exact ⟨(State.finishDomains_windows _).trans ht.windows, (State.finishDomains_causes _).trans ht.causes,
      (State.finishDomains_channels _).trans ht.channels, (State.finishDomains_notices _).trans ht.notices,
      (State.finishDomains_port _ _).trans ht.portZero, fun d hd => (State.finishDomains_port _ _).trans (ht.ports d hd)⟩
  · rw [finishDomains_domain, h.beginTeardown_domain]
  · exact (frame_beginTeardown b ds).trans ((frame_finishDomains _).mono (by simp))

/-- A teardown with a unit of its domains in flight waits for it (R153, R157). -/
theorem tearDown_waits {s b : State} {word : Word} (h : AcceptedAtZero s b word) {ds : DomainId → Bool}
    (k : Nat → ChannelSet → Waiting) {d : DomainId} (haw : ∀ d, (s.domain d).awaited = 0) (hd : ds d = true)
    (hu : s.unitsOf d ≠ 0) :
    ∃ v, b.tearDown ds k = .waits v (k (s.tornCount ds) (s.channelSet ds)) ∧ Torn s v ds word ∧
      (∀ d, v.domain d = (s.beginTeardown ds).domain d) ∧
      Frame b v [.windows, .causes, .channels, .domains, .notices, .ports] := by
  have hn : ¬ (b.beginTeardown ds).noneAwaited = true := by
    rw [h.noneAwaited]
    exact fun hn => hu ((noneAwaited_beginTeardown haw).mp hn d hd)
  refine ⟨b.beginTeardown ds, ?_, h.beginTeardown ds, h.beginTeardown_domain ds, frame_beginTeardown b ds⟩
  rw [← (h.results ds).1, ← (h.results ds).2]
  exact if_neg hn

theorem Torn.begun {s v : State} {ds : DomainId → Bool} {word : Word} (h : Torn s v ds word) (f : Port → Port) :
    TeardownBegun s (v.updPort 0 f) ds :=
  teardownBegun_of h.windows h.causes h.channels h.notices fun d hd => by
    rw [State.updPort_port, if_neg hd]
    exact h.ports d hd

theorem Torn.window {s v : State} {ds : DomainId → Bool} {word : Word} (h : Torn s v ds word) (x : Handle) :
    v.window x = (s.beginTeardown ds).window x := by
  rw [State.window, h.windows]
  rfl

theorem Torn.channel {s v : State} {ds : DomainId → Bool} {word : Word} (h : Torn s v ds word) (c : ChannelId) :
    v.channel c = tornChannel ds (s.channel c) := by
  rw [State.channel, h.channels]
  exact beginTeardown_channel s ds c

theorem beginTeardown_domain_other {s : State} {ds : DomainId → Bool} {d : DomainId} (h : ds d = false) :
    (s.beginTeardown ds).domain d = s.domain d := by
  rw [beginTeardown_domain, h]
  rfl

theorem beginTeardown_domain_torn {s : State} {ds : DomainId → Bool} {d : DomainId} (h : ds d = true) :
    (s.beginTeardown ds).domain d = s.tornDomain d (s.domain d) := by
  rw [beginTeardown_domain, h]
  rfl

/-- Without a unit of the domains torn down no window of theirs stays live. -/
theorem owner_of_live_after {s : State} {ds : DomainId → Bool} (hh : HolderMoves s) (hu : UnitSound s)
    (hz : ∀ d, ds d = true → s.unitsOf d = 0) {h : Handle} {w : Window} (hw : (s.beginTeardown ds).window h = some w) :
    ds w.owner = false := by
  obtain ⟨v, hv, ⟨hd, rfl⟩ | ⟨hd, hk, rfl⟩⟩ := beginTeardown_live.mp hw
  · exact hd
  · have hn := not_kept_of_no_unit hh hu (hz _ hd) hv rfl
    simp [State.keptHandle, hv, hk] at hn

/-- Without a unit of the domains torn down no channel stays theirs. -/
theorem owner_of_channel_after {s : State} {ds : DomainId → Bool} (hz : ∀ d, ds d = true → s.unitsOf d = 0)
    {c : ChannelId} {d : DomainId} (hd : ds d = true) : (tornChannel ds (s.channel c)).owner ≠ some d := by
  cases ho : (s.channel c).owner with
  | none => rw [tornChannel_other (by simp [ho]), ho]; simp
  | some e =>
    cases he : ds e with
    | false =>
      rw [tornChannel_other (by simp [ho, he]), ho]
      rintro ⟨⟩
      rw [hd] at he
      cases he
    | true =>
      rw [tornChannel_idle ho he (unitsOf_eq_zero.mp (hz e he) c ho)]
      simp [Channel.released, Channel.reset]

/-- A domain of 1 to 3 closed by a teardown that completes (R154). -/
theorem finished_tornDomain {s : State} (hc : CountsAgree s) (hh : HolderMoves s) (hu : UnitSound s) {d : DomainId}
    (hd : d ≠ 0) (hz : s.unitsOf d = 0) :
    (finishedDomain d (s.tornDomain d (s.domain d))).state = .closed ∧
      (finishedDomain d (s.tornDomain d (s.domain d))).quota = 0 ∧
      HoldsNothing (finishedDomain d (s.tornDomain d (s.domain d))) := by
  obtain ⟨hheld, haw, hslots⟩ := tornDomain_no_unit hc hh hu hz
  rw [finishedDomain_closes rfl hd]
  refine ⟨rfl, rfl, hheld, fun i => ?_, rfl, haw⟩
  exact (hslots i).trans (if_neg hd)

theorem closeDomain_open {s : State} {t : BitVec 8} {x : DomainId} (ht : t.toNat = x.val) (hx : x ≠ 0)
    (ho : (s.domain x).state = .opened) : closeDomain 0 t s = s.tearDown (fun y => y == x) .close := by
  have hn : ¬ (x = 0 ∨ (s.domain x).state ≠ .opened) := by simp [hx, ho]
  rw [closeDomain, supervisor, if_pos rfl, onDomain, ht, index?_val]
  exact if_neg hn

/-- What a completion or a wait at port 0 leaves of a frame that has the ports. -/
theorem Frame.updPort_zero {s b v : State} {l : List Block} (hl : Block.ports ∈ l) (hb : Frame s b l) (hv : Frame b v l)
    (f : Port → Port) : Frame s (v.updPort 0 f) l := by
  refine (hb.trans hv).trans fun x hx => ?_
  cases x <;> first | rfl | exact absurd hl hx

theorem frame_accept (s : State) (d : DomainId) (word : Word) : Frame s (s.accept d word) [.ports] := by
  intro b hb
  cases b <;> first | rfl | exact absurd (by simp) hb

end Sys2Proof.Machine

namespace Sys2Proof.Proofs

open Sys2Proof.Machine

/-- Settles O31, by whether a channel of the domain is MOVING. -/
theorem closeDomain : Obligations.CloseDomain := by
  intro s a tgt up x owned hA ht hx hopen hS hC hown
  obtain ⟨-, hholder, -, -, hunit, htear, hwait, -⟩ := hS
  obtain ⟨-, hbusy, -⟩ := id hA
  have hclear := clearing_eq_false hwait hbusy
  have haw : ∀ d, (s.domain d).awaited = 0 := fun d => awaited_eq_zero htear (hclear d)
  have hset : s.channelSet (fun y => y == x) = owned := channelSet_eq fun c => by
    rw [hown c]
    cases (s.channel c).owner <;> simp [Bool.beq_eq_decide_eq]
  have hat := acceptedAtZero_accept s (commandWord 0x41 tgt up)
  have hb := closeDomain_open (s := s.accept 0 (commandWord 0x41 tgt up)) ht hx hopen
  have hother : ∀ y, y ≠ x → (s.beginTeardown fun y => y == x).domain y = s.domain y := fun y hy =>
    beginTeardown_domain_other (by simpa using hy)
  have htorn : (s.beginTeardown fun y => y == x).domain x = s.tornDomain x (s.domain x) :=
    beginTeardown_domain_torn (by simp)
  have hframe : Frame s (s.accept 0 (commandWord 0x41 tgt up)) [.windows, .causes, .channels, .domains, .notices, .ports] :=
    (frame_accept s 0 _).mono (by simp)
  by_cases hz : s.unitsOf x = 0
  · have hzero : ∀ d, (d == x) = true → s.unitsOf d = 0 := fun d hd => by
      rw [beq_iff_eq] at hd
      rw [hd, hz]
    obtain ⟨v, hv, htv, hdomain, hf⟩ := tearDown_completes hat .close haw hzero
    obtain ⟨hclosed, hquota, hnothing⟩ := finished_tornDomain hC hholder hunit hx hz
    refine ⟨_, exec_done hA rfl (hb.trans hv), htv.begun _, fun y hy => ?_, Frame.updPort_zero (by simp) hframe hf _,
      fun _ => ⟨?_, ?_⟩, fun ⟨c, ho, hm⟩ => absurd hm (unitsOf_eq_zero.mp hz c ho)⟩
    · rw [State.complete_domain, hdomain, hother y hy, finishedDomain_not_clearing (hclear y)]
    · rw [port_complete, if_pos rfl, htv.portZero, hset]
      rfl
    · rw [State.complete_domain, hdomain, htorn]
      refine ⟨hclosed, hquota, hnothing, fun h w hw => ?_, fun c => ?_⟩
      · rw [State.complete_window, htv.window] at hw
        simpa using owner_of_live_after hholder hunit hzero hw
      · rw [State.complete_channel, htv.channel]
        exact owner_of_channel_after hzero (by simp)
  · obtain ⟨v, hv, htv, hdomain, hf⟩ := tearDown_waits hat .close haw (ds := fun y => y == x) (d := x) (by simp) hz
    refine ⟨_, exec_waits hA rfl (hb.trans hv), htv.begun _, fun y hy => ?_, Frame.updPort_zero (by simp) hframe hf _,
      fun hno => absurd (unitsOf_eq_zero.mpr hno) hz, fun ⟨c, ho, hm⟩ => ⟨?_, ?_, ?_⟩⟩
    · rw [State.updPort_domain, hdomain, hother y hy]
    · rw [State.updPort_port, if_pos rfl, htv.portZero, hset]
      rfl
    · rw [State.updPort_domain, hdomain, htorn]
      exact if_neg hx
    · obtain ⟨u, w, hrec, -, hw, rfl, hk⟩ := moving_has_unit hholder hunit hm ho
      exact awaitsUnit_of hC hholder hunit hrec hw hk (unitsOf_of_moving ho hm) (by simp)
        ((hdomain w.owner).trans htorn) htv.windows

end Sys2Proof.Proofs

namespace Sys2Proof.Machine

/-! ## What MASTER CLEAR tears down -/

/-- A domain that owns a live window is OPEN while no teardown is in progress (R137). -/
theorem opened_of_window {s : State} (hp : PortsAgree s) (ht : TeardownSound s) (hclear : ∀ d, (s.domain d).clearing = false)
    {h : Handle} {w : Window} (hw : s.window h = some w) : (s.domain w.owner).state = .opened := by
  obtain ⟨hlive, -⟩ := ht
  exact opened_of_not_clearing hp (hclear _) (hlive h w hw).1

/-- A domain that owns a channel is OPEN while no teardown is in progress (R137). -/
theorem opened_of_channel {s : State} (hp : PortsAgree s) (ht : TeardownSound s) (hclear : ∀ d, (s.domain d).clearing = false)
    {c : ChannelId} {d : DomainId} (ho : (s.channel c).owner = some d) : (s.domain d).state = .opened := by
  obtain ⟨-, howned, -⟩ := ht
  exact opened_of_not_clearing hp (hclear _) (howned c d ho).1

/-- A teardown of every owner counts every live window. -/
theorem tornCount_eq_live {s : State} {ds : DomainId → Bool}
    (hall : ∀ h w, s.window h = some w → ds w.owner = true) :
    s.tornCount ds = (handles.filter fun h => (s.window h).isSome).length := by
  refine congrArg List.length (List.filter_congr fun h _ => ?_)
  cases hw : s.window h with
  | none => rfl
  | some w => exact hall h w hw

/-- A teardown of every owner names every owned channel. -/
theorem channelSet_eq_owned {s : State} {ds : DomainId → Bool} {owned : ChannelSet}
    (hall : ∀ c d, (s.channel c).owner = some d → ds d = true)
    (hown : ∀ c : ChannelId, owned.getLsbD c.val = decide ((s.channel c).owner ≠ none)) : s.channelSet ds = owned :=
  channelSet_eq fun c => by
    rw [hown c]
    cases ho : (s.channel c).owner with
    | none => rfl
    | some d => simpa using (hall c d ho).symm

/-- With one channel MOVING no other domain than its owner has a unit in flight (R53). -/
theorem unitsOf_other {s : State} (hh : HolderMoves s) {c : ChannelId} {d e : DomainId}
    (hm : (s.channel c).state = .moving) (ho : (s.channel c).owner = some d) (he : e ≠ d) : s.unitsOf e = 0 := by
  obtain ⟨hmoving, -⟩ := hh
  refine unitsOf_eq_zero.mpr fun x hx hxm => he ?_
  have hholder := (hmoving x).mp hxm
  rw [(hmoving c).mp hm] at hholder
  cases hholder
  rw [ho] at hx
  exact (Option.some.inj hx).symm

/-- The run state that MASTER CLEAR sets as its teardown begins (R66, R156). -/
def State.running (s : State) : State := { s with arbiter := { s.arbiter with run := .run } }

theorem masterClear_eq (t : BitVec 8) (s : State) :
    masterClear 0 t s = s.running.tearDown s.clearedByMaster .masterClear := rfl

theorem clearedByMaster_eq {s : State} {ds : DomainId → Bool}
    (hds : ∀ d, ds d = true ↔ d = 0 ∨ (s.domain d).state = .opened) : s.clearedByMaster = ds := by
  funext d
  rw [Bool.eq_iff_iff, hds d]
  simp [State.clearedByMaster]

theorem frame_running (s : State) : Frame s s.running [.arbiter] := Frame.arbiter s _

/-! ## The domain records after a MASTER CLEAR -/

theorem tornDomain_state_quota (s : State) (d : DomainId) (x : Domain) :
    (s.tornDomain d x).state = (if d = 0 then x.state else .closing) ∧ (s.tornDomain d x).quota = x.quota ∧
      (s.tornDomain d x).clearing = true := ⟨rfl, rfl, rfl⟩

/-- Domain 0 after a teardown that completes: it holds no window and keeps its slots (R157). -/
theorem finished_supervisor {s : State} (hc : CountsAgree s) (hh : HolderMoves s) (hu : UnitSound s)
    (hz : s.unitsOf 0 = 0) :
    (finishedDomain 0 (s.tornDomain 0 (s.domain 0))).held = 0 ∧
      (finishedDomain 0 (s.tornDomain 0 (s.domain 0))).clearing = false ∧
      ∀ i : SlotId, (finishedDomain 0 (s.tornDomain 0 (s.domain 0))).slots[i] =
        ((s.domain 0).slots[i]).map fun r => { r with homes := 0 } := by
  obtain ⟨hheld, -, hslots⟩ := tornDomain_no_unit hc hh hu hz
  rw [finishedDomain_supervisor rfl]
  exact ⟨hheld, rfl, fun i => (hslots i).trans (if_pos rfl)⟩

/-- Domain 0 stays OPEN with its quota through a teardown and its completion (R156, R157). -/
theorem finished_supervisor_kept (s : State) :
    (finishedDomain 0 (s.tornDomain 0 (s.domain 0))).state = (s.domain 0).state ∧
      (finishedDomain 0 (s.tornDomain 0 (s.domain 0))).quota = (s.domain 0).quota := by
  rw [finishedDomain_supervisor rfl]
  exact ⟨rfl, rfl⟩

/-- A domain of 1 to 3 after a MASTER CLEAR that completes (R157). -/
theorem finished_cleared {s : State} {ds : DomainId → Bool} (hp : PortsAgree s) (hc : CountsAgree s) (hh : HolderMoves s)
    (hu : UnitSound s) (hclear : ∀ d, (s.domain d).clearing = false)
    (hds : ∀ d, ds d = true ↔ d = 0 ∨ (s.domain d).state = .opened) (hz : ∀ d, ds d = true → s.unitsOf d = 0)
    {d : DomainId} (hd : d ≠ 0) :
    (finishedDomain d ((s.beginTeardown ds).domain d)).state = .closed ∧
      ((s.domain d).state = .opened → (finishedDomain d ((s.beginTeardown ds).domain d)).quota = 0 ∧
        HoldsNothing (finishedDomain d ((s.beginTeardown ds).domain d))) := by
  cases hdd : ds d with
  | true =>
    rw [beginTeardown_domain_torn hdd]
    obtain ⟨hclosed, hq, hnothing⟩ := finished_tornDomain hc hh hu hd (hz d hdd)
    exact ⟨hclosed, fun _ => ⟨hq, hnothing⟩⟩
  | false =>
    rw [beginTeardown_domain_other hdd, finishedDomain_not_clearing (hclear d)]
    have hno : (s.domain d).state ≠ .opened := fun h => by simp [(hds d).mpr (.inr h)] at hdd
    refine ⟨?_, fun h => absurd h hno⟩
    by_contra hcl
    exact hno (opened_of_not_clearing hp (hclear d) hcl)

/-- A domain without a unit in flight while a MASTER CLEAR waits holds nothing, its slots apart in domain 0 (R156). -/
theorem tornDomain_cleared {s : State} (hc : CountsAgree s) (hh : HolderMoves s) (hu : UnitSound s) {d : DomainId}
    (hz : s.unitsOf d = 0) :
    (s.tornDomain d (s.domain d)).held = 0 ∧ (s.tornDomain d (s.domain d)).awaited = 0 ∧
      ∀ i : SlotId, (s.tornDomain d (s.domain d)).slots[i] =
        if d = 0 then ((s.domain 0).slots[i]).map fun r => { r with homes := 0 } else none := by
  obtain ⟨hheld, hawaited, hslots⟩ := tornDomain_no_unit hc hh hu hz
  refine ⟨hheld, hawaited, fun i => (hslots i).trans ?_⟩
  by_cases hd : d = 0
  · subst hd
    rfl
  · rw [if_neg hd, if_neg hd]

/-- Every window is FREE after a teardown of every owner that completes (R157). -/
theorem window_after_full {s : State} {ds : DomainId → Bool} (hh : HolderMoves s) (hu : UnitSound s)
    (hz : ∀ d, ds d = true → s.unitsOf d = 0) (hall : ∀ h w, s.window h = some w → ds w.owner = true) (h : Handle) :
    (s.beginTeardown ds).window h = none := by
  refine Option.eq_none_iff_forall_ne_some.mpr fun v hv => ?_
  have hother := owner_of_live_after hh hu hz hv
  obtain ⟨w, hw, ⟨-, rfl⟩ | ⟨-, -, rfl⟩⟩ := beginTeardown_live.mp hv
  · simp [hall h _ hw] at hother
  · have hd := hall h w hw
    simp [hd] at hother

/-- Every channel is unowned after a teardown of every owner that completes (R157). -/
theorem channel_after_full {s : State} {ds : DomainId → Bool} (hr : UnownedAtReset s)
    (hz : ∀ d, ds d = true → s.unitsOf d = 0) (hall : ∀ c d, (s.channel c).owner = some d → ds d = true)
    (c : ChannelId) :
    ChannelAtReset (tornChannel ds (s.channel c)) ∧ (tornChannel ds (s.channel c)).line = (s.channel c).line := by
  cases ho : (s.channel c).owner with
  | none =>
    rw [tornChannel_other (by simp [ho])]
    exact ⟨hr c ho, rfl⟩
  | some d =>
    rw [tornChannel_idle ho (hall c d ho) (unitsOf_eq_zero.mp (hz d (hall c d ho)) c ho)]
    exact channelAtReset_released _

end Sys2Proof.Machine

namespace Sys2Proof.Proofs

open Sys2Proof.Machine

/-- Settles O32, by whether a channel is MOVING. -/
theorem masterClear : Obligations.MasterClear := by
  intro s a tgt up ds owned hA hS hC hds hown
  obtain ⟨hports, hholder, -, -, hunit, htear, hwait, hreset, -⟩ := hS
  obtain ⟨-, hbusy, -⟩ := id hA
  obtain ⟨hopen, -⟩ := id hports
  have hclear := clearing_eq_false hwait hbusy
  have haw : ∀ d, (s.domain d).awaited = 0 := fun d => awaited_eq_zero htear (hclear d)
  have hwindows : ∀ h w, s.window h = some w → ds w.owner = true := fun h w hw =>
    (hds _).mpr (.inr (opened_of_window hports htear hclear hw))
  have hchannels : ∀ c d, (s.channel c).owner = some d → ds d = true := fun c d ho =>
    (hds _).mpr (.inr (opened_of_channel hports htear hclear ho))
  have hcount := tornCount_eq_live hwindows
  have hset := channelSet_eq_owned hchannels hown
  have hzero : ds 0 = true := (hds 0).mpr (.inl rfl)
  have hb : Machine.masterClear 0 tgt (s.accept 0 (commandWord 0x4F tgt up)) =
      (s.accept 0 (commandWord 0x4F tgt up)).running.tearDown ds .masterClear := by
    rw [masterClear_eq, clearedByMaster_eq (s := s.accept 0 (commandWord 0x4F tgt up)) hds]
  have hat : AcceptedAtZero s (s.accept 0 (commandWord 0x4F tgt up)).running (commandWord 0x4F tgt up) :=
    acceptedAtZero_running s _ _
  have hframe : Frame s (s.accept 0 (commandWord 0x4F tgt up)).running
      [.windows, .causes, .channels, .domains, .notices, .ports, .arbiter] :=
    ((frame_accept s 0 _).mono (by simp)).trans ((frame_running _).mono (by simp))
  by_cases hz : ∀ d, ds d = true → s.unitsOf d = 0
  · obtain ⟨v, hv, htv, hdomain, hf⟩ := tearDown_completes hat .masterClear haw hz
    have htorn : ∀ e, ds e = true → v.domain e = finishedDomain e (s.tornDomain e (s.domain e)) := fun e he => by
      rw [hdomain, beginTeardown_domain_torn he]
    obtain ⟨hstate, hquota⟩ := finished_supervisor_kept s
    obtain ⟨hheld, hdone, hslots⟩ := finished_supervisor hC hholder hunit (hz 0 hzero)
    refine ⟨_, exec_done hA rfl (hb.trans hv), htv.begun _, hf .arbiter (by simp),
      Frame.updPort_zero (by simp) hframe (hf.mono (by simp)) _, ?_, ?_, fun e he => ?_, fun _ => ⟨?_, ?_, ?_, ?_, ?_, ?_, ?_⟩,
      fun c d hm ho => absurd hm (unitsOf_eq_zero.mp (hz d (hchannels c d ho)) c ho)⟩
    · rw [State.complete_domain, htorn 0 hzero, hstate, hopen]
    · rw [State.complete_domain, htorn 0 hzero, hquota]
    · rw [State.complete_domain, hdomain, beginTeardown_domain_other he, finishedDomain_not_clearing (hclear e)]
    · rw [port_complete, if_pos rfl, htv.portZero, hset, hcount]
      rfl
    · intro h
      rw [State.complete_window, htv.window, window_after_full hholder hunit hz hwindows]
    · intro c
      rw [State.complete_channel, htv.channel]
      exact channel_after_full hreset hz hchannels c
    · rw [State.complete_domain, htorn 0 hzero, hheld]
    · rw [State.complete_domain, htorn 0 hzero, hdone]
    · intro i
      rw [State.complete_domain, htorn 0 hzero, hslots i]
    · intro d hd
      rw [State.complete_domain, hdomain]
      exact finished_cleared hports hC hholder hunit hclear hds hz hd
  · push Not at hz
    obtain ⟨d, hd, hu⟩ := hz
    obtain ⟨v, hv, htv, hdomain, hf⟩ := tearDown_waits hat .masterClear haw hd hu
    have htorn : ∀ e, ds e = true → v.domain e = s.tornDomain e (s.domain e) := fun e he => by
      rw [hdomain, beginTeardown_domain_torn he]
    obtain ⟨hstate, hquota, -⟩ := tornDomain_state_quota s 0 (s.domain 0)
    refine ⟨_, exec_waits hA rfl (hb.trans hv), htv.begun _, hf .arbiter (by simp),
      Frame.updPort_zero (by simp) hframe (hf.mono (by simp)) _, ?_, ?_, fun e he => ?_,
      fun hno => absurd (unitsOf_eq_zero.mpr fun c _ => hno c) hu, fun c e hm ho => ⟨?_, ?_, fun x hx => ?_⟩⟩
    · rw [State.updPort_domain, htorn 0 hzero, hstate, if_pos rfl, hopen]
    · rw [State.updPort_domain, htorn 0 hzero, hquota]
    · rw [State.updPort_domain, hdomain, beginTeardown_domain_other he]
    · rw [State.updPort_port, if_pos rfl, htv.portZero, hset, hcount]
    · obtain ⟨u, w, hrec, -, hw, rfl, hk⟩ := moving_has_unit hholder hunit hm ho
      exact awaitsUnit_of hC hholder hunit hrec hw hk (unitsOf_of_moving ho hm) (hwindows _ w hw)
        (htorn _ (hwindows _ w hw)) htv.windows
    · rw [State.updPort_domain, htorn x hx]
      obtain ⟨hstate, hquota, hclearing⟩ := tornDomain_state_quota s x (s.domain x)
      exact ⟨hclearing, fun h0 => hstate.trans (if_neg h0), hquota, fun hne =>
        tornDomain_cleared hC hholder hunit (unitsOf_other hholder hm ho hne)⟩

end Sys2Proof.Proofs

/-! The channel commands, each through the one channel record that it changes. -/

namespace Sys2Proof.Machine

/-! ## A command that changes one channel -/

/-- A channel written with the record it holds. -/
theorem updChannel_self {s : State} {c : ChannelId} {f : Channel → Channel} (h : f (s.channel c) = s.channel c) :
    s.updChannel c f = s := by
  unfold State.updChannel
  rw [h]
  simp [State.channel]

theorem Frame.updWindow (s : State) (h : Handle) (f : Window → Window) : Frame s (s.updWindow h f) [.windows] :=
  Frame.setWindow s h _

theorem Frame.mapWindows (s : State) (f : Handle → Option Window → Option Window) :
    Frame s (s.mapWindows f) [.windows] := by
  intro b hb
  cases b
  case windows => exact absurd (by simp) hb
  all_goals simp [SameIn]

theorem Frame.unlink (s : State) (c : ChannelId) (h : Handle) : Frame s (s.unlink c h) [.channels] :=
  Frame.updChannel s c _

theorem Frame.activateHead (s : State) (c : ChannelId) : Frame s (s.activateHead c) [.windows] := by
  obtain ⟨-, h⟩ | ⟨x, r, -, h⟩ := activateHead_cases s c <;> rw [h]
  · exact Frame.refl _ _
  · exact Frame.updWindow s x _

theorem frame_setPin (s : State) (c : ChannelId) (b : Bool) : Frame s (s.setPin c b) [.rq] := by
  intro x hx
  cases x
  case rq => exact absurd (by simp) hx
  all_goals rfl

/-- A command that changes one channel and completes: its port's answer, its channel, and all that it leaves. -/
theorem channel_answer (s : State) (d : DomainId) (word : Word) (r : Words4) (c : ChannelId) (f : Channel → Channel) :
    Answers s (((s.accept d word).updChannel c f).complete d .done r) d word .done r ∧
      (((s.accept d word).updChannel c f).complete d .done r).channel c = f (s.channel c) ∧
      OnlyChannel s (((s.accept d word).updChannel c f).complete d .done r) c ∧
      Frame s (((s.accept d word).updChannel c f).complete d .done r) [.channels, .ports] :=
  ⟨answers_complete _ _ rfl, by simp, fun x hx => by simp [hx],
    Frame.complete (by simp) ((Frame.updChannel _ c f).mono (by simp))⟩

/-- A command whose block ends in a grant decision, which reads no port record (R54). -/
theorem exec_done_grant {s v : State} {i : Instr} {a : Access} {d : DomainId} {r : Words4} {k t : BitVec 8}
    {u : BitVec 16} {body : DomainId → BitVec 8 → State → Completion} (hA : Admits s a d)
    (hi : exec i s = .next (s.hostWrite a fun d => s.commandWrite d (commandWord k t u) body))
    (hb : body d t (s.accept d (commandWord k t u)) = .done v.grantDecision r) :
    exec i s = .next (v.complete d .done r).grantDecision := by
  rw [exec_done hA hi hb, complete_grantDecision]

/-! ## The checks of a channel command (R28, R140) -/

theorem onChannel_badHandle {s : State} {d : DomainId} {t : BitVec 8} (ht : 12 ≤ t.toNat) (k : ChannelId → Completion) :
    s.onChannel d t k = .refused .badHandle := by
  simp only [State.onChannel, index?_eq_none.mpr ht]

theorem onChannel_notOwner {s : State} {d : DomainId} {t : BitVec 8} {c : ChannelId} {w : Word} (ht : t.toNat = c.val)
    (ho : (s.channel c).owner ≠ some d) (k : ChannelId → Completion) :
    (s.accept d w).onChannel d t k = .refused .notOwner := by
  simp only [State.onChannel, ht, index?_val, State.accept_channel, ho, if_false]

theorem readChannel_badHandle {s : State} {d : DomainId} {t : BitVec 8} (ht : 12 ≤ t.toNat) :
    readChannel d t s = .refused .badHandle := by
  simp only [readChannel, index?_eq_none.mpr ht]

theorem readChannel_notOwner {s : State} {d : DomainId} {t : BitVec 8} {c : ChannelId} (ht : t.toNat = c.val)
    (hd : d ≠ 0) (ho : (s.channel c).owner ≠ some d) : readChannel d t s = .refused .notOwner := by
  simp only [readChannel, ht, index?_val, hd, ho, ne_eq, not_false_eq_true, and_self, if_true]

/-! ## The request and the mask of a channel whose state follows them (R30, R43) -/

/-- The state of a channel that follows its request: ARMED and PENDING alone (R30). -/
theorem followRequest_eq (ch : Channel) :
    ch.followRequest =
      { ch with
        state :=
          if ch.state = .armed ∨ ch.state = .pending then (if ch.effective then .pending else .armed) else ch.state } := by
  rcases ch with ⟨o, st⟩
  cases st <;> simp only [Channel.followRequest] <;> try split
  all_goals simp_all

/-- MASK CHANNEL on a channel whose state agrees with its request (R43). -/
theorem withMask_true {ch : Channel} (ha : ch.state = .armed → ch.effective = false) :
    ch.withMask true =
      if ch.masked then ch
      else { ch with masked := true, state := if ch.state = .pending ∧ ch.soft = false then .armed else ch.state } := by
  cases hm : ch.masked with
  | true => simp [Channel.withMask, hm]
  | false =>
    simp only [Channel.withMask, hm, followRequest_eq]
    rcases hst : ch.state <;> simp_all [Channel.effective]
    split <;> simp_all

/-- UNMASK CHANNEL on a channel whose state agrees with its request (R43). -/
theorem withMask_false {ch : Channel} (ha : ch.state = .armed → ch.effective = false)
    (hp : ch.state = .pending → ch.effective = true) :
    ch.withMask false =
      if ch.masked then
        { ch with masked := false, state := if ch.state = .armed ∧ ch.line = true then .pending else ch.state }
      else ch := by
  cases hm : ch.masked with
  | false => simp [Channel.withMask, hm]
  | true =>
    simp only [Channel.withMask, hm, followRequest_eq]
    rcases hst : ch.state <;> simp_all [Channel.effective]

/-- An assertion on a channel whose line stood withdrawn (R29, R32). -/
theorem requestEvent_true {ch : Channel} (hl : ch.line = false) (ha : ch.state = .armed → ch.effective = false)
    (hp : ch.state = .pending → ch.effective = true) :
    ch.requestEvent true =
      { ch with
        line := true
        starved := if ch.state = .idle then true else ch.starved
        state := if ch.state = .armed ∧ ch.masked = false then .pending else ch.state } := by
  unfold Channel.requestEvent
  split
  · next h => simp [h]
  · next h =>
    rw [followRequest_eq]
    rcases hst : ch.state <;> simp_all [Channel.effective]

/-- A withdrawal on a channel whose line stood asserted (R29). -/
theorem requestEvent_false {ch : Channel} (ha : ch.state = .armed → ch.effective = false) :
    ch.requestEvent false =
      { ch with line := false, state := if ch.state = .pending ∧ ch.soft = false then .armed else ch.state } := by
  unfold Channel.requestEvent
  split
  · next h => simp [h]
  · next h =>
    rw [followRequest_eq]
    rcases hst : ch.state <;> simp_all [Channel.effective]
    split <;> simp_all

/-! ## The channel setting word (R44) -/

theorem bits_lt (w : Word) (lo n : Nat) : bits w lo n < 2 ^ n := (w.extractLsb' lo n).isLt

/-- The mode that a mode code of 0, 1 or 2 names. -/
def modeOf (v : Nat) : Mode := if v = 0 then .single else if v = 1 then .demand else .block

theorem mode_ofCode {v : Nat} (hv : v < 4) : Mode.ofCode v = if v = 3 then none else some (modeOf v) := by
  have : v = 0 ∨ v = 1 ∨ v = 2 ∨ v = 3 := by omega
  rcases this with rfl | rfl | rfl | rfl <;> rfl

theorem decodeChannelSetting_bad {w : Word} (h : bits w 0 2 = 3 ∨ 4 ≤ bits w 4 3 ∨ bits w 16 9 = 0 ∨ 256 < bits w 16 9) :
    decodeChannelSetting w = none := by
  rw [decodeChannelSetting, mode_ofCode (bits_lt w 0 2)]
  by_cases hm : bits w 0 2 = 3
  · simp [hm]
  · by_cases hc : 4 ≤ bits w 4 3
    · simp [hm, index?_eq_none.mpr hc]
    · have hb : ¬ (1 ≤ bits w 16 9 ∧ bits w 16 9 ≤ Config.maxBurst) := by
        simp only [Config.maxBurst]
        omega
      cases index? 4 (bits w 4 3) <;> simp [hm, hb, guard]

theorem decodeChannelSetting_good {w : Word} {k : ClassId} (hm : bits w 0 2 ≠ 3) (hk : bits w 4 3 = k.val)
    (h1 : 1 ≤ bits w 16 9) (h2 : bits w 16 9 ≤ 256) :
    decodeChannelSetting w = some { mode := modeOf (bits w 0 2), cls := k, burstLimit := bits w 16 9 } := by
  have hb : 1 ≤ bits w 16 9 ∧ bits w 16 9 ≤ Config.maxBurst := ⟨h1, h2⟩
  simp [decodeChannelSetting, mode_ofCode (bits_lt w 0 2), hm, hk, hb, guard]

end Sys2Proof.Machine

namespace Sys2Proof.Proofs

open Sys2Proof.Machine

/-- Settles O16: ENABLE from OFF and RESUME from STALLED both settle a channel that was not IDLE. -/
theorem channelSettles : Obligations.ChannelSettles := by
  intro s a d tgt up c hA ht ho
  refine ⟨fun hst => ?_, fun hst => ?_⟩
  · have hb : enableChannel d tgt (s.accept d (commandWord 0x20 tgt up)) =
        .done ((s.accept d (commandWord 0x20 tgt up)).updChannel c Channel.settled).grantDecision noResults := by
      simp [enableChannel, onChannel_own ht ho, hst]
    obtain ⟨hans, hch, honly, hframe⟩ :=
      channel_answer s d (commandWord 0x20 tgt up) noResults c Channel.settled
    exact ⟨_, exec_done_grant hA rfl hb, hans, hch.trans (settled_of_not_idle _ (by simp [hst])), honly, hframe⟩
  · have hb : resumeChannel d tgt (s.accept d (commandWord 0x26 tgt up)) =
        .done (((((s.accept d (commandWord 0x26 tgt up)).updChannel c fun ch => { ch with stall := none }).activateHead
          c).updChannel c Channel.settled).grantDecision) noResults := by
      simp [resumeChannel, onChannel_own ht ho, hst]
    refine ⟨_, exec_done_grant hA rfl hb, answers_complete _ _ (by simp), ?_, fun x hx => by simp [hx], fun x => ?_,
      Frame.complete (by simp) (((((Frame.updChannel _ c _).mono (by simp)).trans
        ((Frame.activateHead _ c).mono (by simp)))).trans ((Frame.updChannel _ c _).mono (by simp)))⟩
    · simpa using settled_of_not_idle { s.channel c with stall := none } (by simp [hst])
    · simp [window_activateHead]

/-- Settles O17, by the state of the channel. -/
theorem disableChannel : Obligations.DisableChannel := by
  intro s a d tgt up c hA ht ho
  refine ⟨fun hst => ?_, fun hst => ?_, fun hst => ?_⟩
  · have hb : Machine.disableChannel d tgt (s.accept d (commandWord 0x21 tgt up)) =
        .done ((s.accept d (commandWord 0x21 tgt up)).updChannel c fun ch => { ch with state := .off, soft := false })
          noResults := by
      rcases hst with hst | hst | hst <;> simp [Machine.disableChannel, onChannel_own ht ho, hst]
    exact ⟨_, exec_done hA rfl hb, channel_answer s d (commandWord 0x21 tgt up) noResults c _⟩
  · have hb : Machine.disableChannel d tgt (s.accept d (commandWord 0x21 tgt up)) =
        .done (((s.accept d (commandWord 0x21 tgt up)).updChannel c fun ch =>
          { ch with state := .off, soft := false, stall := none }).activateHead c) noResults := by
      simp [Machine.disableChannel, onChannel_own ht ho, hst]
    refine ⟨_, exec_done hA rfl hb, answers_complete _ _ (by simp), by simp, fun x hx => by simp [hx],
      fun x => by simp [window_activateHead],
      Frame.complete (by simp) (((Frame.updChannel _ c _).mono (by simp)).trans
        ((Frame.activateHead _ c).mono (by simp)))⟩
  · have hb : Machine.disableChannel d tgt (s.accept d (commandWord 0x21 tgt up)) =
        .waits ((s.accept d (commandWord 0x21 tgt up)).updChannel c fun ch =>
          { ch with soft := false, disablePending := true }) (.disable c) := by
      simp [Machine.disableChannel, onChannel_own ht ho, hst]
    exact ⟨_, exec_waits hA rfl hb, startsWait_updPort _ rfl, by simp, fun x hx => by simp [hx],
      Frame.wait (by simp) ((Frame.updChannel _ c _).mono (by simp))⟩

/-- Settles O18: a channel whose state agrees with its request follows the mask. -/
theorem maskAndUnmask : Obligations.MaskAndUnmask := by
  rintro s a d tgt up c _ hA ht rfl ho ⟨-, -, -, -, -, harmed, hpending, -⟩
  have ha : (s.channel c).state = .armed → (s.channel c).effective = false := fun h => (harmed h).2.2
  have hp : (s.channel c).state = .pending → (s.channel c).effective = true := fun h => (hpending h).2.2
  constructor
  · have hb : maskChannel d tgt (s.accept d (commandWord 0x22 tgt up)) =
        .done ((s.accept d (commandWord 0x22 tgt up)).updChannel c fun ch => ch.withMask true) noResults := by
      simp [maskChannel, onChannel_own ht ho]
    obtain ⟨hans, hch, hrest⟩ :=
      channel_answer s d (commandWord 0x22 tgt up) noResults c fun ch => ch.withMask true
    exact ⟨_, exec_done hA rfl hb, hans, hch.trans (withMask_true ha), hrest⟩
  · have hb : unmaskChannel d tgt (s.accept d (commandWord 0x23 tgt up)) =
        .done ((s.accept d (commandWord 0x23 tgt up)).updChannel c fun ch => ch.withMask false).grantDecision
          noResults := by
      simp [unmaskChannel, onChannel_own ht ho]
    obtain ⟨hans, hch, honly, hframe⟩ :=
      channel_answer s d (commandWord 0x23 tgt up) noResults c fun ch => ch.withMask false
    refine ⟨_, exec_done_grant hA rfl hb, hans, hch.trans (withMask_false ha hp), honly, hframe, fun hm hn => ?_⟩
    rw [updChannel_self (by simp [Channel.withMask, hm])]
    exact ⟨grantDecision_of_noGrantDue (hn.congr rfl rfl), Frame.complete (by simp) (Frame.refl _ _)⟩

/-- Settles O19, by what the channel setting word names. -/
theorem setChannel : Obligations.SetChannel := by
  rintro s a d tgt up _ hA rfl
  have refused : ∀ {o}, Machine.setChannel d tgt (s.accept d (commandWord 0x24 tgt up)) = .refused o →
      Refused s (.setChannel a tgt up) d o := fun hb => refused_of hA rfl rfl hb
  refine ⟨fun ht => refused (onChannel_badHandle ht _), fun c ht =>
    ⟨fun ho => refused (onChannel_notOwner ht ho _), fun ho => ⟨fun hbad => refused ?_, fun k hm hk h1 h2 => ?_⟩⟩⟩
  · simp [Machine.setChannel, onChannel_own ht ho, decodeChannelSetting_bad hbad]
  · have hgood := decodeChannelSetting_good hm hk h1 h2
    refine ⟨fun hst => refused ?_, fun hst => ?_⟩
    · simp [Machine.setChannel, onChannel_own ht ho, hgood, hst]
    · have hb : Machine.setChannel d tgt (s.accept d (commandWord 0x24 tgt up)) =
          .done ((s.accept d (commandWord 0x24 tgt up)).updChannel c fun ch =>
            { ch with
              mode := modeOf (bits (s.port d).params[0] 0 2), cls := k
              burstLimit := bits (s.port d).params[0] 16 9 }) noResults := by
        simp [Machine.setChannel, onChannel_own ht ho, hgood, hst]
      exact ⟨_, exec_done hA rfl hb, channel_answer s d (commandWord 0x24 tgt up) noResults c _⟩

/-- Settles O20, by the state of the channel. -/
theorem pulseChannel : Obligations.PulseChannel := by
  intro s a d tgt up hA
  have refused : ∀ {o}, Machine.pulseChannel d tgt (s.accept d (commandWord 0x27 tgt up)) = .refused o →
      Refused s (.pulseChannel a tgt up) d o := fun hb => refused_of hA rfl rfl hb
  refine ⟨fun ht => refused (onChannel_badHandle ht _), fun c ht =>
    ⟨fun ho => refused (onChannel_notOwner ht ho _), fun ho ha hp => refused ?_, fun ho hst => ?_⟩⟩
  · cases hst : (s.channel c).state <;> simp_all [Machine.pulseChannel, onChannel_own ht ho]
  · have hb : Machine.pulseChannel d tgt (s.accept d (commandWord 0x27 tgt up)) =
        .done ((s.accept d (commandWord 0x27 tgt up)).updChannel c fun ch =>
          { ch with state := .pending, soft := true }).grantDecision noResults := by
      rcases hst with hst | hst <;> simp [Machine.pulseChannel, onChannel_own ht ho, hst]
    exact ⟨_, exec_done_grant hA rfl hb, channel_answer s d (commandWord 0x27 tgt up) noResults c _⟩

/-- Settles O22. -/
theorem channelRefusals : Obligations.ChannelRefusals := by
  intro s a d tgt up hA
  refine ⟨fun ht mk hmk => ?_, fun c ht => ⟨fun ho => ⟨fun mk hmk => ?_, fun hd => ?_⟩, fun ho => ⟨?_, ?_, ?_⟩⟩⟩
  · simp only [List.mem_cons, List.not_mem_nil, or_false] at hmk
    rcases hmk with rfl | rfl | rfl | rfl | rfl | rfl | rfl
    case inr.inr.inr.inr.inr.inr => exact refused_of hA rfl rfl (readChannel_badHandle ht)
    all_goals exact refused_of hA rfl rfl (onChannel_badHandle ht _)
  · simp only [List.mem_cons, List.not_mem_nil, or_false] at hmk
    rcases hmk with rfl | rfl | rfl | rfl | rfl | rfl <;>
      exact refused_of hA rfl rfl (onChannel_notOwner ht ho _)
  · exact refused_of hA rfl rfl (readChannel_notOwner ht hd (by simpa using ho))
  · intro hst
    exact refused_of hA rfl rfl (by simp [enableChannel, onChannel_own ht ho, hst])
  · intro hst
    exact refused_of hA rfl rfl (by simp [Machine.disableChannel, onChannel_own ht ho, hst])
  · intro hst
    exact refused_of hA rfl rfl (by simp [resumeChannel, onChannel_own ht ho, hst])

/-- Settles O30. -/
theorem channelOwnership : Obligations.ChannelOwnership := by
  intro s a tgt up c x hA ht
  refine ⟨fun hx hopen ho => ?_, fun ho hst hchain => ?_⟩
  · have hb : assignChannel 0 tgt (s.accept 0 (commandWord 0x45 tgt up)) =
        .done ((s.accept 0 (commandWord 0x45 tgt up)).updChannel c fun ch => { ch with owner := some x }) noResults := by
      simp [assignChannel, supervisor, ht, hx, hopen, ho]
    exact ⟨_, exec_done hA rfl hb, channel_answer s 0 (commandWord 0x45 tgt up) noResults c _⟩
  · have hb : unassignChannel 0 tgt (s.accept 0 (commandWord 0x46 tgt up)) =
        .done ((s.accept 0 (commandWord 0x46 tgt up)).updChannel c Channel.released) (words (field x.val 0) 0 0 0) := by
      simp [unassignChannel, supervisor, ht, ho, hst, hchain]
    obtain ⟨hans, hch, honly, hframe⟩ :=
      channel_answer s 0 (commandWord 0x46 tgt up) (words (field x.val 0) 0 0 0) c Channel.released
    refine ⟨_, exec_done hA rfl hb, hans, ?_, ?_, honly, hframe⟩ <;> rw [hch]
    · exact (channelAtReset_released _).1
    · exact (channelAtReset_released _).2

/-- Settles O43: the recorded level moves the channel whose state agrees with its request. -/
theorem requestEvents : Obligations.RequestEvents := by
  rintro s c _ hr rfl ⟨-, -, -, -, -, harmed, hpending, -⟩
  have ha : (s.channel c).state = .armed → (s.channel c).effective = false := fun h => (harmed h).2.2
  have hp : (s.channel c).state = .pending → (s.channel c).effective = true := fun h => (hpending h).2.2
  have taken : ∀ b, (s.channel c).line ≠ b →
      s.requestLine c b = ((s.setPin c b).updChannel c fun ch => ch.requestEvent b).grantDecision := fun b hl => by
    simp [State.requestLine, hr, hl]
  have frame : ∀ b, Frame s ((s.setPin c b).updChannel c fun ch => ch.requestEvent b) [.channels, .rq] := fun b =>
    (frame_setPin s c b |>.mono (by simp)).trans ((Frame.updChannel _ c _).mono (by simp))
  refine ⟨fun hl => ?_, fun hl => ?_, fun hl => ?_, fun hl => ?_⟩
  · simp [exec, execRequestAssertion, State.requestLine, hr, hl, State.setPin]
  · simp [exec, execRequestWithdrawal, State.requestLine, hr, hl, State.setPin]
  · exact ⟨_, congrArg _ (taken true (by simp [hl])), by simp, by simpa using requestEvent_true hl ha hp,
      fun x hx => by simp [hx], frame true⟩
  · exact ⟨_, congrArg _ (taken false (by simp [hl])), by simp, by simpa using requestEvent_false ha,
      fun x hx => by simp [hx], frame false⟩

end Sys2Proof.Proofs

/-! The commands that bind a window to a chain, take an ACTIVE head off it, or cut it. -/

namespace Sys2Proof.Machine

/-! ## The handle after a handle -/

theorem nextInChain_of_not_mem {h : Handle} {l : List Handle} (hn : h ∉ l) : nextInChain h (l ++ [h]) = none := by
  induction l with
  | nil => simp [nextInChain]
  | cons x xs ih =>
    rw [List.mem_cons, not_or] at hn
    rw [List.cons_append, nextInChain, if_neg (Ne.symm hn.1), ih hn.2]

theorem nextInChain_of_getLast {h x : Handle} {l : List Handle} (hl : l.Nodup) (hx : l.getLast? = some x) :
    nextInChain x (l ++ [h]) = some h := by
  induction l with
  | nil => cases hx
  | cons y ys ih =>
    cases ys with
    | nil =>
      cases hx
      simp [nextInChain]
    | cons z zs =>
      rw [List.getLast?_cons_cons] at hx
      have hy : y ≠ x := fun e => (List.nodup_cons.mp hl).1 (e ▸ List.mem_of_getLast? hx)
      rw [List.cons_append, nextInChain, if_neg hy]
      exact ih (List.nodup_cons.mp hl).2 hx

/-! ## BIND WINDOW (R39) -/

theorem bindsActive_iff {ch : Channel} :
    ch.bindsActive = true ↔ ch.chain = [] ∧ ch.state ≠ .stalled ∧ ch.state ≠ .moving := by
  simp [Channel.bindsActive, and_assoc]

theorem withBound_eq (ch : Channel) (h : Handle) :
    ch.withBound h =
      { ch with
        chain := ch.chain ++ [h]
        starved := false
        state := if ch.state = .idle then (if ch.effective then .pending else .armed) else ch.state } := by
  by_cases hi : ch.state = .idle
  · have he : ({ ch with chain := ch.chain ++ [h], starved := false } : Channel).effective = ch.effective := rfl
    rw [Channel.withBound, if_pos hi, if_pos hi, Channel.settled, he]
    cases ch.effective <;> simp
  · simp [Channel.withBound, hi]

/-- A window off every chain is no member of one. -/
theorem not_mem_chain {s : State} (hs : ChainsAgree s) {h : Handle} {w : Window} (hw : s.window h = some w)
    (hst : w.state.onChain = false) (c : ChannelId) : h ∉ (s.channel c).chain := fun hm => by
  obtain ⟨v, hv, hon, -⟩ := (hs.1 c).2 h hm
  rw [Option.mem_def, hw] at hv
  cases hv
  simp [hst] at hon

/-! ## REVOKE WINDOW of an ACTIVE head (R89) -/

theorem revokeWindow_activeHead {s : State} {d : DomainId} {t : BitVec 8} {h : Handle} {w : Window} {c : ChannelId}
    (hl : s.liveWindow t = some (h, w)) (ho : w.owner = d ∨ d = 0) (hc : w.channel = some c) (hst : w.state = .active)
    (hf : s.inFlight h = false) :
    revokeWindow d t s =
      .done ((s.revokeActive h c).raiseOverride d h w) (words (stateAndRemaining w.parkedOff) 0 0 0) := by
  have hn : ¬ (w.owner ≠ d ∧ d ≠ 0) := fun hh => ho.elim hh.1 hh.2
  simp [revokeWindow, hl, hn, hst, hc, hf]

theorem settledIfWaiting_eq {ch : Channel} (h : ch.state = .off ∨ ch.state = .armed ∨ ch.state = .pending) :
    ch.settledIfWaiting = if ch.state = .off then ch else settlesTo ch := by
  rcases h with h | h | h <;> simp [Channel.settledIfWaiting, h, settled_of_not_idle]

theorem revokeLinked_window (s : State) (h x : Handle) (c : ChannelId) :
    (s.revokeLinked h c).window x = if x = h then (s.window h).map Window.parkedOff else s.window x := by
  simp [State.revokeLinked]

theorem revokeActive_window {s : State} {h : Handle} {c : ChannelId} {rest : List Handle}
    (hr : rest = (s.channel c).chain.filter fun x => x != h) (x : Handle) :
    (s.revokeActive h c).window x =
      if rest.head? = some x then (s.window x).map asHead
      else if x = h then (s.window h).map Window.parkedOff else s.window x := by
  have hx : rest.head? = some x → x ≠ h := fun hh => by
    have := List.mem_of_head? hh
    simp [hr] at this
    exact this.2
  simp only [State.revokeActive, State.updChannel_window, window_activateHead, revokeLinked_window]
  simp only [State.revokeLinked, State.unlink, State.updChannel_channel, State.updWindow_channel, if_true, ← hr]
  split
  · next hh => rw [if_neg (hx hh)]
  · rfl

theorem revokeActive_channel (s : State) (h : Handle) (c x : ChannelId) :
    (s.revokeActive h c).channel x =
      if x = c then
        ({ s.channel c with chain := (s.channel c).chain.filter fun y => y != h } : Channel).settledIfWaiting
      else s.channel x := by
  by_cases hx : x = c <;> simp [State.revokeActive, State.revokeLinked, State.unlink, hx]

theorem frame_revokeActive (s : State) (h : Handle) (c : ChannelId) :
    Frame s (s.revokeActive h c) [.windows, .channels] :=
  (((Frame.updWindow _ h _).mono (by simp)).trans ((Frame.unlink _ c h).mono (by simp))).trans
    (((Frame.activateHead _ c).mono (by simp)).trans ((Frame.updChannel _ c _).mono (by simp)))

/-! ## CUT CHAIN (R45, R46) -/

theorem cut_eq (ch : Channel) :
    ch.cut =
      if ch.state = .armed ∨ ch.state = .pending ∨ ch.state = .stalled then
        { ch with chain := [], stall := none, soft := false, state := .idle, starved := ch.starved || ch.line }
      else { ch with chain := [], stall := none, soft := false } := by
  rcases hst : ch.state <;> simp [Channel.cut, Channel.toIdle, hst]

/-- A cut makes PARKED what stands on a chain, but for a head whose unit is in flight (R45). -/
theorem cutWindow_onChain {s : State} {h : Handle} {w : Window} (hon : w.state.onChain = true) :
    s.cutWindow h w =
      if w.state = .active ∧ s.inFlight h = true then { w with state := .draining }
      else { w with state := .parked, channel := none } := by
  rcases hst : w.state <;> simp [WindowState.onChain, hst] at hon
  · simp [State.cutWindow, hst, Window.parkedOff]
  · simp [State.cutWindow, hst, Window.parkedOff]

theorem cutChainOf_channel (s : State) (c x : ChannelId) :
    (s.cutChainOf c).channel x = if x = c then (s.channel c).cut else s.channel x := by
  simp [State.cutChainOf]

theorem frame_cutChainOf (s : State) (c : ChannelId) : Frame s (s.cutChainOf c) [.windows, .channels] :=
  ((Frame.mapWindows _ _).mono (by simp)).trans ((Frame.updChannel _ c _).mono (by simp))

theorem headInFlight_eq_some {s : State} {c : ChannelId} {h : Handle} :
    s.headInFlight c = some h ↔
      (s.channel c).chain.head? = some h ∧ ∃ w, s.window h = some w ∧ w.state = .active ∧ s.inFlight h = true := by
  unfold State.headInFlight
  cases (s.channel c).chain with
  | nil => simp
  | cons x xs =>
    simp only [List.head?_cons, Option.some.injEq, Option.ite_none_right_eq_some, Option.any_eq_true, Bool.and_eq_true,
      beq_iff_eq]
    constructor
    · rintro ⟨hw, rfl⟩
      exact ⟨rfl, hw⟩
    · rintro ⟨rfl, hw⟩
      exact ⟨hw, rfl⟩

end Sys2Proof.Machine

namespace Sys2Proof.Proofs

open Sys2Proof.Machine

/-- Settles O9: the window is the new tail of its chain. -/
theorem bindWindow : Obligations.BindWindow := by
  rintro s a d tgt up h w c _ active hA ht hw rfl hst hc rfl ho hact
  have hactive : (s.channel c).bindsActive = active := by
    rw [Bool.eq_iff_iff, bindsActive_iff, hact]
  have hb : Machine.bindWindow w.owner tgt (s.accept w.owner (commandWord 0x12 tgt up)) =
      .done ((((s.accept w.owner (commandWord 0x12 tgt up)).setWindow h (some (w.bound c active))).updChannel c fun ch =>
        ch.withBound h).grantDecision)
        (words (field (if active then 3 else 2) 0 ||| field ((s.channel c).chain.length + 1) 8) 0 0 0) := by
    rw [bindWindow_live (liveWindow_accept ht hw _ _) (by rw [taken_accept]; exact hc)]
    cases active <;> simp [ho, hst, hactive, chainWord, WindowState.code]
  refine ⟨_, exec_done_grant hA rfl hb, answers_complete _ _ rfl, ?_, fun x hx => by simp [hx], ?_,
    fun x hx => by simp [hx],
    Frame.complete (by simp) (((Frame.setWindow _ h _).mono (by simp)).trans ((Frame.updChannel _ c _).mono (by simp))),
    fun hs => ?_⟩
  · cases active <;> simp [Window.bound, Window.renewed]
  · simp [withBound_eq]
  · have hn : h ∉ (s.channel c).chain := not_mem_chain hs hw (by simp [hst, WindowState.onChain]) c
    refine ⟨?_, fun x hx => ?_⟩
    · cases active <;> simp [State.nextOf, Window.bound, withBound_eq, nextInChain_of_not_mem hn]
    · have hm : x ∈ (s.channel c).chain := List.mem_of_getLast? hx
      obtain ⟨v, hv, -, hvc, -⟩ := (hs.1 c).2 x hm
      rw [Option.mem_def] at hv
      have hxh : x ≠ h := fun e => hn (e ▸ hm)
      simp [State.nextOf, hxh, hv, hvc, withBound_eq, nextInChain_of_getLast (hs.1 c).1 hx]

/-- Settles O11: the window behind the head is activated, and the channel settles unless it is OFF. -/
theorem revokeActiveHead : Obligations.RevokeActiveHead := by
  rintro s a d tgt up h w c _ rest hA ht hw ho hc hst hf rfl hch hrest
  have hexec := exec_done (i := .revokeWindow a tgt up) hA rfl
    (revokeWindow_activeHead (liveWindow_accept ht hw d (commandWord 0x13 tgt up)) ho hc hst hf)
  rw [State.complete, raiseOverride_updPort] at hexec
  have hnot : rest.head? ≠ some h := fun hh => by simpa [hrest] using List.mem_of_head? hh
  have hwin := revokeActive_window (s := s.accept d (commandWord 0x13 tgt up)) hrest
  refine ⟨_, hexec, answers_complete _ _ (frame_revokeActive _ h c .ports (by simp)), ?_, fun x hx => ?_, ?_,
    fun x hx => ?_, Frame.complete (by simp) ((frame_revokeActive _ h c).mono (by simp))⟩
  · exact (hwin h).trans (by simp [hnot, hw, Window.parkedOff])
  · exact (hwin x).trans (by simp [hx])
  · simp only [State.updPort_channel, revokeActive_channel, if_true, State.accept_channel, ← hrest]
    exact settledIfWaiting_eq (ch := { s.channel c with chain := rest }) hch
  · simp [revokeActive_channel, hx]

/-- Settles O21, by whether the head's unit is in flight. -/
theorem cutChain : Obligations.CutChain := by
  rintro s a d tgt up c _ hA ht rfl ho hs
  let b := s.accept d (commandWord 0x25 tgt up)
  have hwin : ∀ (h : Handle) (w : Window), h ∈ (s.channel c).chain → s.window h = some w →
      (b.cutChainOf c).window h = some
        (if w.state = .active ∧ s.inFlight h = true then { w with state := .draining }
         else { w with state := .parked, channel := none }) := fun h w hm hw => by
    obtain ⟨v, hv, hon, -⟩ := (hs.1 c).2 h hm
    rw [Option.mem_def, hw] at hv
    cases hv
    have hmb : h ∈ (b.channel c).chain := hm
    rw [cutChainOf_window, if_pos hmb]
    exact (congrArg _ hw).trans (congrArg some (cutWindow_onChain hon))
  have hout : ∀ h : Handle, h ∉ (s.channel c).chain → (b.cutChainOf c).window h = s.window h := fun h hm => by
    have hmb : h ∉ (b.channel c).chain := hm
    rw [cutChainOf_window, if_neg hmb]
    rfl
  have hch : (b.cutChainOf c).channel c = (s.channel c).cut := by
    rw [cutChainOf_channel, if_pos rfl]
    rfl
  have hports : (b.cutChainOf c).ports = b.ports := frame_cutChainOf _ _ .ports (by simp)
  have hframe : Frame b (b.cutChainOf c) [.windows, .channels, .ports] := (frame_cutChainOf b c).mono (by simp)
  have honly : OnlyChannel s (b.cutChainOf c) c := fun x hx => by
    rw [cutChainOf_channel, if_neg hx]
    rfl
  cases hf : s.headInFlight c with
  | none =>
    have hb : Machine.cutChain d tgt b = .done (b.cutChainOf c) (words (field (s.channel c).chain.length 0) 0 0 0) := by
      have hfb : b.headInFlight c = none := hf
      simp [Machine.cutChain, b, onChannel_own ht ho] at hfb ⊢
      simp [hfb]
    refine ⟨_, exec_done hA rfl hb, honly, ?_, hout, hwin, Frame.complete (by simp) hframe,
      fun _ => answers_complete _ _ hports, fun h w hh hw hst hi => ?_⟩
    · exact hch.trans (cut_eq _)
    · rw [headInFlight_eq_some.mpr ⟨hh, w, hw, hst, hi⟩] at hf
      cases hf
  | some h =>
    obtain ⟨hh, w, hw, hst, hi⟩ := headInFlight_eq_some.mp hf
    have hb : Machine.cutChain d tgt b = .waits (b.cutChainOf c) (.cut h (s.channel c).chain.length) := by
      have hfb : b.headInFlight c = some h := hf
      simp [Machine.cutChain, b, onChannel_own ht ho] at hfb ⊢
      simp [hfb]
    refine ⟨_, exec_waits hA rfl hb, honly, ?_, hout, hwin, Frame.wait (by simp) hframe,
      fun hno => absurd ⟨hst, hi⟩ (hno h w hh hw), fun x _ hx _ _ _ => ?_⟩
    · exact hch.trans (cut_eq _)
    · rw [hh] at hx
      cases hx
      exact startsWait_updPort _ hports

end Sys2Proof.Proofs

/-! The end of a unit, in the three things it is made of: what its outcome makes of the window, the channel and the notice
unit, the yield of the port, and the grant decision. -/

namespace Sys2Proof.Machine

/-! ## The notice unit's raise reads level and owner of the window alone -/

theorem raise_congr {s t : State} {h : Handle} (x : Cause)
    (hw : (t.window h).map (fun w => (w.owner, w.level)) = (s.window h).map fun w => (w.owner, w.level))
    (hc : t.causes = s.causes) (hn : t.notices = s.notices) :
    (t.raise h x).causes = (s.raise h x).causes ∧ (t.raise h x).notices = (s.raise h x).notices := by
  have hp : t.pendingCauses h = s.pendingCauses h := by simp only [State.pendingCauses, hc]
  cases hs : s.window h with
  | none =>
    rw [hs, Option.map_none, Option.map_eq_none_iff] at hw
    simp [State.raise, hs, hw, hc, hn]
  | some w =>
    rw [hs, Option.map_some, Option.map_eq_some_iff] at hw
    obtain ⟨v, hv, he⟩ := hw
    simp only [Prod.mk.injEq] at he
    simp only [State.raise, hs, hv, he.1, he.2, hp]
    cases w.level with
    | none => exact ⟨hc, hn⟩
    | some l =>
      by_cases h0 : s.pendingCauses h = 0
      · simp only [h0, if_true, State.setCauses, State.joinList, State.updNotice, State.notice, hc, hn, and_self]
      · simp only [h0, if_false, State.setCauses, hc, hn, and_self]

theorem NoticesAfter.of_congr {s t : State} {h : Handle} (x : Option Cause)
    (hw : (t.window h).map (fun w => (w.owner, w.level)) = (s.window h).map fun w => (w.owner, w.level))
    (hc : t.causes = s.causes) (hn : t.notices = s.notices) : NoticesAfter s (t.raise? h x) h x := by
  cases x with
  | none => exact ⟨hc, hn⟩
  | some x => exact raise_congr x hw hc hn

theorem Frame.raise (s : State) (h : Handle) (x : Cause) : Frame s (s.raise h x) [.causes, .notices] := by
  intro b hb
  cases b
  case causes | notices => exact absurd (by simp) hb
  all_goals simp [SameIn]

theorem Frame.raise? (s : State) (h : Handle) (x : Option Cause) : Frame s (s.raise? h x) [.causes, .notices] := by
  cases x with
  | none => exact Frame.refl _ _
  | some x => exact Frame.raise s h x

theorem Frame.setHolder (s : State) (c : Option ChannelId) : Frame s (s.setHolder c) [.arbiter] := Frame.arbiter s _

theorem frame_setRecord (s : State) (u : Option UnitRecord) : Frame s (s.setRecord u) [.memory] := by
  intro b hb
  cases b <;> first | rfl | exact absurd (by simp) hb

theorem frame_setStale (s : State) (b : Bool) : Frame s (s.setStale b) [.memory] := by
  intro b hb
  cases b <;> first | rfl | exact absurd (by simp) hb

theorem frame_completeWaiters (s : State) (u : UnitRecord) : Frame s (s.completeWaiters u) [.ports] := by
  intro b hb
  cases b
  case ports => exact absurd (by simp) hb
  all_goals simp [SameIn]

/-! ## Reading a record of a block that is left as it is -/

section
variable {s t : State} {l : List Block} (h : Frame s t l)
include h

theorem Frame.same_window (hb : Block.windows ∉ l) (x : Handle) : t.window x = s.window x := by
  have hw : t.windows = s.windows := h .windows hb
  simp only [State.window, hw]

theorem Frame.same_channel (hb : Block.channels ∉ l) (c : ChannelId) : t.channel c = s.channel c := by
  have hc : t.channels = s.channels := h .channels hb
  simp only [State.channel, hc]

theorem Frame.same_domain (hb : Block.domains ∉ l) (d : DomainId) : t.domain d = s.domain d := by
  have hd : t.domains = s.domains := h .domains hb
  simp only [State.domain, hd]

theorem Frame.same_port (hb : Block.ports ∉ l) (d : DomainId) : t.port d = s.port d := by
  have hp : t.ports = s.ports := h .ports hb
  simp only [State.port, hp]

end

/-! ## What an outcome makes of window, channel and notice unit -/

/-- The records after the outcome of a unit (R77 to R81, R94, R95): `g` of its window, which leaves the chain if `off`, the
cause raised if there is one, and `k` of its channel. -/
def State.unitEnded (s : State) (u : UnitRecord) (g : Window → Window) (off : Bool) (x : Option Cause)
    (k : Channel → Channel) : State :=
  let counted := s.updWindow u.window g
  let unlinked := if off then counted.unlink u.channel u.window else counted
  (unlinked.raise? u.window x).updChannel u.channel k

theorem headCounted_eq (s : State) (u : UnitRecord) (w : Window) :
    s.headCounted u w = s.unitEnded u Window.afterHeadOk (w.exhausts && !w.reload) w.okCause Channel.countedOk := rfl

theorem drainOk_eq (s : State) (u : UnitRecord) (w : Window) :
    s.drainOk u w = (s.unitEnded u Window.afterDrainOk false w.okCause Channel.countedOk).yield u := rfl

theorem drainFailed_eq (s : State) (u : UnitRecord) (f : Failure) :
    s.drainFailed u f =
      (s.unitEnded u (Window.failedWith f) false (some f.cause) Channel.countedFailed).yield u := rfl

/-- A channel that stalls on the failure of its head (R37, R81). -/
def Channel.stalledBy (ch : Channel) (h : Handle) (f : Failure) : Channel :=
  { ch with state := .stalled, stall := some { window := h, cause := f } }

/-- The records after the failure of the ACTIVE head's unit, before the channel stalls or yields (R81). -/
def State.headLost (s : State) (u : UnitRecord) (f : Failure) : State :=
  s.unitEnded u (Window.failedWith f) true (some f.cause) Channel.countedFailed

theorem headFailed_eq (s : State) (u : UnitRecord) (f : Failure) :
    s.headFailed u f =
      if ((s.headLost u f).channel u.channel).disablePending then (s.headLost u f).yield u
      else (((s.headLost u f).updChannel u.channel fun ch => ch.stalledBy u.window f).setHolder none).grantDecision := rfl

section
variable (s : State) (u : UnitRecord) (g : Window → Window) (off : Bool) (x : Option Cause) (k : Channel → Channel)

theorem unitEnded_window (h : Handle) :
    (s.unitEnded u g off x k).window h = if h = u.window then (s.window u.window).map g else s.window h := by
  cases off <;> simp [State.unitEnded]

theorem unitEnded_channel (c : ChannelId) :
    (s.unitEnded u g off x k).channel c =
      if c = u.channel then
        k (if off then { s.channel u.channel with chain := (s.channel u.channel).chain.filter fun y => y != u.window }
          else s.channel u.channel)
      else s.channel c := by
  by_cases hc : c = u.channel <;> cases off <;> simp [State.unitEnded, State.unlink, hc]

theorem frame_unitEnded :
    Frame s (s.unitEnded u g off x k) [.windows, .channels, .causes, .notices] := by
  have hcounted := (Frame.updWindow s u.window g).mono (m := [.windows, .channels, .causes, .notices]) (by simp)
  have hraised := fun t => (Frame.raise? t u.window x).mono (m := [.windows, .channels, .causes, .notices]) (by simp)
  have hupd := fun t => (Frame.updChannel t u.channel k).mono (m := [.windows, .channels, .causes, .notices]) (by simp)
  cases off with
  | false => exact (hcounted.trans (hraised _)).trans (hupd _)
  | true =>
    have hunlinked := (Frame.unlink (s.updWindow u.window g) u.channel u.window).mono
      (m := [.windows, .channels, .causes, .notices]) (by simp)
    exact ((hcounted.trans hunlinked).trans (hraised _)).trans (hupd _)

theorem unitEnded_notices (hg : ∀ w, (g w).owner = w.owner ∧ (g w).level = w.level) :
    NoticesAfter s (s.unitEnded u g off x k) u.window x := by
  have hlevel : ((s.updWindow u.window g).window u.window).map (fun w => (w.owner, w.level)) =
      (s.window u.window).map fun w => (w.owner, w.level) := by
    simp [Function.comp_def, hg]
  cases off <;> exact NoticesAfter.of_congr x hlevel rfl rfl

end

/-! ## The yield of the port -/

/-- The state of a yield before the grant decision: the port free, a LINKED head ACTIVE, the channel OFF or settled, the
commands that wait on the unit complete (R58, R96, R97). -/
def State.yielded (s : State) (u : UnitRecord) : State :=
  (((s.setHolder none).activateHead u.channel).updChannel u.channel Channel.yielded).completeWaiters u

theorem yield_eq (s : State) (u : UnitRecord) : s.yield u = (s.yielded u).grantDecision := rfl

theorem atUnitEnd_eq (p : Port) (u : UnitRecord) (final : Word) : p.atUnitEnd u final = portAtEnd p u final := by
  unfold Port.atUnitEnd portAtEnd
  cases hw : p.waiting with
  | none => simp
  | some y => cases y <;> simp <;> rfl

section
variable (s : State) (u : UnitRecord)

theorem yielded_window (h : Handle) :
    (s.yielded u).window h =
      if (s.channel u.channel).chain.head? = some h then (s.window h).map asHead else s.window h := by
  rw [State.yielded, State.completeWaiters_window, State.updChannel_window]
  exact window_activateHead _ _ _

theorem yielded_channel (c : ChannelId) :
    (s.yielded u).channel c = if c = u.channel then (s.channel u.channel).yielded else s.channel c := by
  by_cases hc : c = u.channel <;> simp [State.yielded, hc]

theorem yielded_port (d : DomainId) :
    (s.yielded u).port d = portAtEnd (s.port d) u (remainingLayout (s.yielded u) u.window) := by
  have hfinal : remainingLayout (s.yielded u) u.window =
      (((s.setHolder none).activateHead u.channel).updChannel u.channel Channel.yielded).finalWord u.window := by
    simp [State.yielded, remainingLayout, State.finalWord]
    rfl
  rw [hfinal, ← atUnitEnd_eq]
  simp [State.yielded, State.completeWaiters]

theorem yielded_arbiter : (s.yielded u).arbiter = { s.arbiter with holder := none } := by
  simp [State.yielded]

theorem yielded_memory : (s.yielded u).memory = s.memory := by
  simp [State.yielded]

theorem yielded_causes_notices : (s.yielded u).causes = s.causes ∧ (s.yielded u).notices = s.notices := by
  simp [State.yielded]

theorem frame_yielded : Frame s (s.yielded u) [.windows, .channels, .arbiter, .ports] :=
  ((((Frame.setHolder s none).mono (by simp)).trans ((Frame.activateHead _ u.channel).mono (by simp))).trans
    ((Frame.updChannel _ u.channel _).mono (by simp))).trans ((frame_completeWaiters _ u).mono (by simp))

end

theorem yielded_of_moving {ch : Channel} (h : ch.state = .moving) :
    ch.yielded = if ch.disablePending then { ch with state := .off, disablePending := false } else settlesTo ch := by
  rw [Channel.yielded, settled_of_not_idle ch (by simp [h])]

/-! ## The counted window (R77 to R79, R94) -/

theorem exhausts_eq (w : Window) : w.exhausts = decide (¬ 1 < w.remaining) := by
  rw [Bool.eq_iff_iff, Window.exhausts, beq_iff_eq, decide_eq_true_eq]
  omega

theorem remaining_le_one_sub {n : Nat} (h : ¬ 1 < n) : n - 1 = 0 := by omega

theorem afterOk_spent_iff {w : Window} (h : w.state ≠ .spent) :
    (afterOk w).state = .spent ↔ ¬ 1 < w.remaining ∧ w.reload = false := by
  by_cases h1 : 1 < w.remaining <;> cases hr : w.reload <;> simp [afterOk, h1, hr, h]

theorem afterHeadOk_eq {w : Window} (h : w.state = .active) :
    w.afterHeadOk = { afterOk w with channel := if (afterOk w).state = .spent then none else w.channel } := by
  by_cases h1 : 1 < w.remaining <;> cases hr : w.reload <;>
    simp [Window.afterHeadOk, exhausts_eq, afterOk, Window.counted, Window.reloaded, Config.maxLaps, h1, hr, h]
  exact remaining_le_one_sub h1

theorem afterDrainOk_eq {w : Window} (h : w.state = .draining) :
    w.afterDrainOk =
      { afterOk w with state := if (afterOk w).state = .spent then .spent else .parked, channel := none } := by
  by_cases h1 : 1 < w.remaining <;> cases hr : w.reload <;>
    simp [Window.afterDrainOk, exhausts_eq, afterOk, Window.counted, Window.reloaded, Window.parkedOff, Config.maxLaps,
      h1, hr, h]
  exact remaining_le_one_sub h1

theorem okCause_eq (w : Window) : w.okCause = causeOfOk w := by
  by_cases h1 : 1 < w.remaining <;> simp [Window.okCause, causeOfOk, exhausts_eq, h1]

theorem afterHeadOk_notice (w : Window) : w.afterHeadOk.owner = w.owner ∧ w.afterHeadOk.level = w.level := by
  unfold Window.afterHeadOk
  split
  · split <;> exact ⟨rfl, rfl⟩
  · exact ⟨rfl, rfl⟩

theorem afterDrainOk_notice (w : Window) : w.afterDrainOk.owner = w.owner ∧ w.afterDrainOk.level = w.level := by
  unfold Window.afterDrainOk
  split
  · split <;> exact ⟨rfl, rfl⟩
  · exact ⟨rfl, rfl⟩

theorem goesOn_eq_true {rs : RunState} {ch : Channel} {w : Window} :
    goesOn rs ch w = true ↔
      ch.mode ≠ .single ∧ ch.burst < ch.burstLimit ∧ 1 < w.remaining ∧ rs = .run ∧ ch.masked = false ∧
        (ch.mode = .demand → ch.line = true) ∧ ch.disablePending = false := by
  simp [goesOn, exhausts_eq, and_assoc, imp_iff_not_or]

/-- The conditions of R57, read on the channel once it has counted the unit. -/
theorem goesOn_countedOk (a : Arbiter) (ch : Channel) (w : Window) (l : List Handle) :
    goesOn a.run ({ ch with chain := l } : Channel).countedOk w = true ↔ continues a ch w := goesOn_eq_true

theorem asHead_of_not_linked {w : Window} (h : w.state ≠ .linked) : asHead w = w := if_neg h

/-! ## The event that ends a unit -/

theorem unitEnds_ok {s : State} {u : UnitRecord} {i : Instr} (h : UnitEnds s u i none) : exec i s = .next (s.unitOk u) := by
  obtain ⟨hr, hrec, -, ⟨rfl, hp, -⟩ | ⟨rfl, hp, -⟩ | ⟨-, -, hf⟩ | ⟨-, -, -, -, -, hf⟩⟩ := h
  · simp [exec, execMdone, State.unlessReset, State.completionTaken, hr, hrec, hp]
  · simp [exec, execStrobeEnd, State.unlessReset, State.strobeEnd, hr, hrec, hp]
  · cases hf
  · cases hf

/-- A failure ends the unit after the stale cycle flag is set, where the outcome sets it (R83). -/
theorem unitEnds_failed {s : State} {u : UnitRecord} {i : Instr} {f : Failure} (h : UnitEnds s u i (some f)) :
    exec i s = .next ((s.setStale (staleAfter s u (some f))).unitFailed u f) := by
  obtain ⟨hr, hrec, -, ⟨-, -, hf⟩ | ⟨-, -, hf⟩ | ⟨rfl, hp, hf⟩ | ⟨rfl, hd, he, hl, ha, hf⟩⟩ := h
  · cases hf
  · cases hf
  · cases hf
    have hstale : s.setStale (staleAfter s u (some .busError)) = s := by simp [staleAfter]; rfl
    rw [hstale]
    simp [exec, execMerr, State.unlessReset, State.completionTaken, hr, hrec, hp]
  · cases hf
    have ht : s.timeout u = (s.setStale (staleAfter s u (some .unitTimeout))).unitFailed u .unitTimeout := by
      by_cases hp : u.phase = .busCycle <;> simp [State.timeout, staleAfter, hp]
      rfl
    rw [← ht]
    simp [exec, execUnitTimeout, State.tickDelivered, State.unitTimeout, State.timesOut, State.ages, hr, he, hrec, hd, hl,
      ha]

theorem record_of_unitEnds {s : State} {u : UnitRecord} {i : Instr} {f : Option Failure} (h : UnitEnds s u i f) :
    s.memory.record = some u := h.2.1

section
variable {s : State} {u : UnitRecord} {w : Window} (hw : s.window u.window = some w)
include hw

theorem unitOk_active (hc : (s.domain w.owner).clearing = false) (hst : w.state = .active) :
    s.unitOk u = (s.setRecord none).headOk u w := by
  simp [State.unitOk, State.ownerClearing, hw, hc, hst]

theorem unitOk_draining (hc : (s.domain w.owner).clearing = false) (hst : w.state = .draining) :
    s.unitOk u = (s.setRecord none).drainOk u w := by
  simp [State.unitOk, State.ownerClearing, hw, hc, hst]

theorem unitOk_clearing (hc : (s.domain w.owner).clearing = true) :
    s.unitOk u = (s.setRecord none).tornDownEnd u w := by
  simp [State.unitOk, State.ownerClearing, hw, hc]

theorem unitFailed_active (f : Failure) (hc : (s.domain w.owner).clearing = false) (hst : w.state = .active) :
    s.unitFailed u f = (s.setRecord none).headFailed u f := by
  simp [State.unitFailed, State.ownerClearing, hw, hc, hst]

theorem unitFailed_draining (f : Failure) (hc : (s.domain w.owner).clearing = false) (hst : w.state = .draining) :
    s.unitFailed u f = (s.setRecord none).drainFailed u f := by
  simp [State.unitFailed, State.ownerClearing, hw, hc, hst]

theorem unitFailed_clearing (f : Failure) (hc : (s.domain w.owner).clearing = true) :
    s.unitFailed u f = (s.setRecord none).tornDownEnd u w := by
  simp [State.unitFailed, State.ownerClearing, hw, hc]

end

end Sys2Proof.Machine

namespace Sys2Proof.Machine

/-! ## A unit that ends its grant -/

/-- The state in which the end of a unit is judged: the stale cycle flag as the outcome leaves it, the record gone (R76,
R83). -/
def State.recordGone (s : State) (u : UnitRecord) (f : Option Failure) : State :=
  (s.setStale (staleAfter s u f)).setRecord none

theorem setRecord_none_eq (s : State) (u : UnitRecord) : s.setRecord none = s.recordGone u none := rfl

theorem frame_recordGone (s : State) (u : UnitRecord) (f : Option Failure) : Frame s (s.recordGone u f) [.memory] :=
  (frame_setStale s _).trans (frame_setRecord _ none)

section
variable {s : State} {u : UnitRecord} {g : Window → Window} {off : Bool} {x : Option Cause} {k : Channel → Channel}

theorem unitEnded_channel_self {ch : Channel} (hch : s.channel u.channel = ch) {rest : List Handle}
    (hrest : rest = if off then ch.chain.filter (fun y => y != u.window) else ch.chain) :
    (s.unitEnded u g off x k).channel u.channel = k { ch with chain := rest } := by
  rw [unitEnded_channel, if_pos rfl, hch, hrest]
  cases off <;> rfl

theorem unitEnded_window_self {w : Window} (hw : s.window u.window = some w) :
    (s.unitEnded u g off x k).window u.window = some (g w) := by
  rw [unitEnded_window, if_pos rfl, hw, Option.map_some]

/-- What a yield after an outcome shows of every block. -/
structure Yields (s m : State) (u : UnitRecord) (f : Option Failure) (v : Window) (ch : Channel) (x : Option Cause) :
    Prop where
  window : m.window u.window = some v
  heads : HeadActivated s m u.window ch.chain
  channel : m.channel u.channel = ch.yielded
  others : OnlyChannel s m u.channel
  arbiter : m.arbiter = { s.arbiter with holder := none }
  memory : m.memory = { record := none, stale := staleAfter s u f }
  notices : NoticesAfter s m u.window x
  ports : ∀ d : DomainId, m.port d = portAtEnd (s.port d) u (remainingLayout m u.window)
  frame : Frame s m [.windows, .causes, .notices, .channels, .arbiter, .memory, .ports]

/-- A yield after an outcome that leaves no LINKED window behind. -/
theorem unitEnded_yields {w : Window} {ch : Channel} {rest : List Handle} (f : Option Failure)
    (hw : s.window u.window = some w) (hch : s.channel u.channel = ch)
    (hrest : rest = if off then ch.chain.filter (fun y => y != u.window) else ch.chain)
    (hg : ∀ w, (g w).owner = w.owner ∧ (g w).level = w.level) (hlinked : (g w).state ≠ .linked)
    (hk : (k { ch with chain := rest }).chain = rest) :
    Yields s (((s.recordGone u f).unitEnded u g off x k).yielded u) u f (g w) (k { ch with chain := rest }) x := by
  have hchannel : ((s.recordGone u f).unitEnded u g off x k).channel u.channel = k { ch with chain := rest } :=
    unitEnded_channel_self (s := s.recordGone u f) hch hrest
  have hblocks := frame_unitEnded (s.recordGone u f) u g off x k
  have hport : ∀ d, ((s.recordGone u f).unitEnded u g off x k).port d = s.port d := fun d =>
    hblocks.same_port (by simp) d
  obtain ⟨hcauses, hnotices⟩ := unitEnded_notices (s.recordGone u f) u g off x k hg
  obtain ⟨hc0, hn0⟩ := NoticesAfter.of_congr (s := s) (t := s.recordGone u f) (h := u.window) x rfl rfl rfl
  constructor
  case window =>
    rw [yielded_window, hchannel, hk, unitEnded_window_self (s := s.recordGone u f) hw]
    split
    · rw [Option.map_some, asHead_of_not_linked hlinked]
    · rfl
  case heads =>
    intro y hy
    rw [yielded_window, hchannel, hk, unitEnded_window, if_neg hy]
    rfl
  case channel => rw [yielded_channel, if_pos rfl, hchannel]
  case others =>
    intro c hc
    rw [yielded_channel, if_neg hc, unitEnded_channel, if_neg hc]
    rfl
  case arbiter => rw [yielded_arbiter, hblocks .arbiter (by simp)]; rfl
  case memory => rw [yielded_memory, hblocks .memory (by simp)]; rfl
  case notices =>
    obtain ⟨hcy, hny⟩ := yielded_causes_notices ((s.recordGone u f).unitEnded u g off x k) u
    exact ⟨hcy.trans (hcauses.trans hc0), hny.trans (hnotices.trans hn0)⟩
  case ports =>
    intro d
    rw [yielded_port, hport]
  case frame =>
    exact (((frame_recordGone s u f).mono (by simp)).trans (hblocks.mono (by simp))).trans
      ((frame_yielded _ u).mono (by simp))

end

end Sys2Proof.Machine

namespace Sys2Proof.Proofs

open Sys2Proof.Machine

/-- Settles O46: the channel counts the unit and does not go on. -/
theorem unitYields : Obligations.UnitYields := by
  rintro s u i w _ rest hend hw hst hclear rfl hmov hnot hrest
  have hne : w.state ≠ .spent := by simp [hst]
  have hoff : (w.exhausts && !w.reload) = decide ((afterOk w).state = .spent) := by
    rw [Bool.eq_iff_iff]
    simp [afterOk_spent_iff hne, exhausts_eq]
  have hrest' : rest = if (w.exhausts && !w.reload) then (s.channel u.channel).chain.filter (fun y => y != u.window)
      else (s.channel u.channel).chain := by
    simpa [hoff] using hrest
  have hch : ((s.setRecord none).headCounted u w).channel u.channel =
      ({ s.channel u.channel with chain := rest } : Channel).countedOk :=
    unitEnded_channel_self (s := s.setRecord none) rfl hrest'
  have hrun : ((s.setRecord none).headCounted u w).arbiter = s.arbiter :=
    frame_unitEnded (s.setRecord none) u _ _ _ _ .arbiter (by simp)
  have hexec : exec i s = .next (((s.setRecord none).headCounted u w).yielded u).grantDecision := by
    rw [unitEnds_ok hend, unitOk_active hw hclear hst, headOk_eq, hrun, hch,
      if_neg fun hgo => hnot ((goesOn_countedOk _ _ w rest).mp hgo), yield_eq]
  have hy := unitEnded_yields (x := w.okCause) (k := Channel.countedOk) none hw rfl hrest' afterHeadOk_notice
    (by rw [afterHeadOk_eq hst]; by_cases h1 : 1 < w.remaining <;> cases hr : w.reload <;> simp [afterOk, h1, hr, hst]) rfl
  refine ⟨_, hexec, hy.window.trans (congrArg some (afterHeadOk_eq hst)), hy.heads, ?_, hy.others, hy.arbiter, hy.memory,
    okCause_eq w ▸ hy.notices, hy.ports, hy.frame⟩
  exact hy.channel.trans (yielded_of_moving hmov)

/-- Settles O47, by whether a disable is pending. -/
theorem headFails : Obligations.HeadFails := by
  rintro s u i f w _ rest hend hw hst hclear rfl hrest
  have hch : ((s.recordGone u (some f)).headLost u f).channel u.channel =
      { s.channel u.channel with chain := rest, soft := false } :=
    unitEnded_channel_self (s := s.recordGone u (some f)) (off := true) (k := Channel.countedFailed) rfl hrest
  have hpend : (((s.recordGone u (some f)).headLost u f).channel u.channel).disablePending =
      (s.channel u.channel).disablePending := by rw [hch]
  have hexec : exec i s = .next ((s.recordGone u (some f)).headFailed u f) := by
    rw [unitEnds_failed hend, unitFailed_active (s := s.setStale (staleAfter s u (some f))) hw f hclear hst]
    rfl
  rw [headFailed_eq, hpend] at hexec
  cases hd : (s.channel u.channel).disablePending with
  | true =>
    have hy := unitEnded_yields (g := Window.failedWith f) (off := true) (x := some f.cause) (k := Channel.countedFailed)
      (some f) hw rfl hrest (fun _ => ⟨rfl, rfl⟩) (by simp [Window.failedWith]) rfl
    refine ⟨_, hexec.trans (congrArg _ (if_pos hd)), hy.window, hy.others, hy.arbiter, hy.memory, hy.notices, hy.frame,
      fun h => (nomatch h), fun _ => ⟨hy.heads, hy.channel.trans ?_, hy.ports⟩⟩
    simp [Channel.yielded, Channel.countedFailed, hd]
  | false =>
    have hblocks : Frame _ ((s.recordGone u (some f)).headLost u f) _ := frame_unitEnded (s.recordGone u (some f)) u _ _ _ _
    obtain ⟨hcauses, hnotices⟩ := unitEnded_notices (s.recordGone u (some f)) u (Window.failedWith f) true (some f.cause)
      Channel.countedFailed fun _ => ⟨rfl, rfl⟩
    obtain ⟨hc0, hn0⟩ :=
      NoticesAfter.of_congr (s := s) (t := s.recordGone u (some f)) (h := u.window) (some f.cause) rfl rfl rfl
    have hwin : ∀ y, ((s.recordGone u (some f)).headLost u f).window y =
        if y = u.window then (s.window u.window).map (Window.failedWith f) else s.window y :=
      unitEnded_window (s.recordGone u (some f)) u _ _ _ _
    refine ⟨_, hexec.trans (congrArg _ (if_neg (by simp [hd]))), ?_, fun c hc => ?_, ?_, ?_, ?_, ?_,
      fun _ => ⟨fun y hy => ?_, ?_, ?_⟩, fun h => (nomatch h)⟩
    · exact (hwin u.window).trans (by simp [hw, Window.failedWith])
    · simp only [State.setHolder_channel, State.updChannel_channel, if_neg hc]
      exact (unitEnded_channel _ u _ _ _ _ c).trans (if_neg hc)
    · exact congrArg (fun a : Arbiter => { a with holder := none }) (hblocks .arbiter (by simp))
    · exact hblocks .memory (by simp)
    · exact ⟨hcauses.trans hc0, hnotices.trans hn0⟩
    · exact (((frame_recordGone s u (some f)).mono (by simp)).trans (hblocks.mono (by simp))).trans
        (((Frame.updChannel _ u.channel _).mono (by simp)).trans ((Frame.setHolder _ none).mono (by simp)))
    · exact (hwin y).trans (if_neg hy)
    · exact hblocks .ports (by simp)
    · simp [hch, Channel.stalledBy, hd]

/-- Settles O48, by the outcome. -/
theorem drainEnds : Obligations.DrainEnds := by
  rintro s u i f w _ _ hend hw hst hclear rfl hmov rfl
  cases f with
  | none =>
    have hexec : exec i s = .next (((s.recordGone u none).unitEnded u Window.afterDrainOk false w.okCause
        Channel.countedOk).yielded u).grantDecision := by
      rw [unitEnds_ok hend, unitOk_draining hw hclear hst, drainOk_eq, yield_eq]
      rfl
    have hy := unitEnded_yields (off := false) (x := w.okCause) (k := Channel.countedOk) none hw rfl rfl
      afterDrainOk_notice (by rw [afterDrainOk_eq hst]; dsimp only; split <;> simp) rfl
    exact ⟨_, hexec, hy.window.trans (congrArg some (afterDrainOk_eq hst)), hy.heads,
      hy.channel.trans (yielded_of_moving hmov), hy.others, hy.arbiter, hy.memory, okCause_eq w ▸ hy.notices, hy.ports,
      hy.frame⟩
  | some f =>
    have hexec : exec i s = .next (((s.recordGone u (some f)).unitEnded u (Window.failedWith f) false (some f.cause)
        Channel.countedFailed).yielded u).grantDecision := by
      rw [unitEnds_failed hend, unitFailed_draining (s := s.setStale (staleAfter s u (some f))) hw f hclear hst,
          drainFailed_eq, yield_eq]
      rfl
    have hy := unitEnded_yields (g := Window.failedWith f) (off := false) (x := some f.cause)
      (k := Channel.countedFailed) (some f) hw rfl rfl (fun _ => ⟨rfl, rfl⟩) (by simp [Window.failedWith]) rfl
    exact ⟨_, hexec, hy.window, hy.heads, hy.channel.trans (yielded_of_moving hmov), hy.others, hy.arbiter, hy.memory,
      hy.notices, hy.ports, hy.frame⟩

end Sys2Proof.Proofs

/-! The end of a unit of a torn-down domain: what the teardown leaves of the domains under it. -/

namespace Sys2Proof.Machine

/-! ## The unit of a domain under teardown -/

/-- The records when the window of a torn-down unit is FREE and its channel released, before the teardown is judged complete
(R52, R101). -/
def State.drainFreed (s : State) (u : UnitRecord) (w : Window) : State :=
  (((s.freeWindow u.window w).updDomain w.owner fun x => x.lessDrained w.owner w.home).updChannel u.channel
    Channel.released).setHolder none

theorem tornDownEnd_eq (s : State) (u : UnitRecord) (w : Window) :
    s.tornDownEnd u w = (s.drainFreed u w).finishTeardown.grantDecision := rfl

theorem finishTeardown_of_noneAwaited {s : State} (h : s.noneAwaited = true) :
    s.finishTeardown = s.finishDomains.updPort 0 Port.teardownDone := by
  rw [State.finishTeardown, if_pos h]

theorem frame_updPort (s : State) (d : DomainId) (f : Port → Port) : Frame s (s.updPort d f) [.ports] := by
  intro b hb
  cases b <;> first | rfl | exact absurd (by simp) hb

theorem noneAwaited_iff {s : State} : s.noneAwaited = true ↔ ∀ d, (s.domain d).awaited = 0 := by
  simp [State.noneAwaited, domainIds]

section
variable {s : State} {u : UnitRecord} {w : Window}

theorem drainFreed_window (x : Handle) : (s.drainFreed u w).window x = if x = u.window then none else s.window x := by
  simp [State.drainFreed, State.freeWindow]

theorem drainFreed_pendingCauses (x : Handle) :
    (s.drainFreed u w).pendingCauses x = if x = u.window then 0 else s.pendingCauses x := by
  simp [State.drainFreed, State.freeWindow]

theorem drainFreed_notice_other {d : DomainId} (hd : d ≠ w.owner) : (s.drainFreed u w).notice d = s.notice d := by
  simp [State.drainFreed, State.freeWindow, hd]

theorem drainFreed_channel (c : ChannelId) :
    (s.drainFreed u w).channel c = if c = u.channel then (s.channel c).released else s.channel c := by
  by_cases hc : c = u.channel <;> simp [State.drainFreed, hc]

theorem drainFreed_domain (d : DomainId) :
    (s.drainFreed u w).domain d = if d = w.owner then (s.domain d).lessDrained w.owner w.home else s.domain d := by
  by_cases hd : d = w.owner <;> simp [State.drainFreed, hd]

theorem drainFreed_kept (d : DomainId) :
    ((s.drainFreed u w).domain d).state = (s.domain d).state ∧ ((s.drainFreed u w).domain d).quota = (s.domain d).quota ∧
      ((s.drainFreed u w).domain d).clearing = (s.domain d).clearing := by
  rw [drainFreed_domain]
  split <;> exact ⟨rfl, rfl, rfl⟩

theorem frame_drainFreed :
    Frame s (s.drainFreed u w) [.windows, .causes, .notices, .domains, .channels, .arbiter] :=
  ((((frame_freeWindow s u.window w).mono (by simp)).trans ((Frame.updDomain _ w.owner _).mono (by simp))).trans
    ((Frame.updChannel _ u.channel _).mono (by simp))).trans ((Frame.setHolder _ none).mono (by simp))

end

/-- The unit in flight belongs to a domain under teardown (R52, R101). -/
structure TornUnit (s : State) (u : UnitRecord) (w : Window) : Prop where
  ports : PortsAgree s
  holder : HolderMoves s
  unit : UnitSound s
  teardown : TeardownSound s
  record : s.memory.record = some u
  window : s.window u.window = some w
  clearing : (s.domain w.owner).clearing = true

section
variable {s : State} {u : UnitRecord} {w : Window} (ht : TornUnit s u w)
include ht

theorem TornUnit.channel :
    (s.channel u.channel).owner = some w.owner ∧ (s.channel u.channel).state = .moving ∧
      (s.channel u.channel).disablePending = false := by
  obtain ⟨-, hunit, -⟩ := ht.unit
  obtain ⟨-, v, hv, -, howner, -⟩ := hunit u ht.record
  rw [Option.mem_def, ht.window] at hv
  cases hv
  obtain ⟨-, hchan, -⟩ := ht.teardown
  obtain ⟨-, hclear⟩ := hchan u.channel w.owner howner
  obtain ⟨hmov, -, hdis⟩ := hclear ht.clearing
  exact ⟨howner, hmov, hdis⟩

theorem TornUnit.unitsOf (d : DomainId) : s.unitsOf d = if d = w.owner then 1 else 0 := by
  obtain ⟨howner, hmov, -⟩ := ht.channel
  split
  · next h => exact h ▸ unitsOf_of_moving howner hmov
  · next h => exact unitsOf_other ht.holder hmov howner h

theorem TornUnit.awaited (d : DomainId) : (s.domain d).awaited = if d = w.owner then 1 else 0 := by
  obtain ⟨-, -, haw, -⟩ := ht.teardown
  rw [haw, ht.unitsOf]
  split
  · rfl
  · next h =>
    split
    · next hd => exact absurd (hd ▸ ht.clearing) h
    · rfl

/-- The window of the unit is the one live window of the domains under teardown (R153, R156). -/
theorem TornUnit.eq_window {h : Handle} {v : Window} (hv : s.window h = some v)
    (hc : (s.domain v.owner).clearing = true) : h = u.window := by
  obtain ⟨hwin, -⟩ := ht.teardown
  obtain ⟨-, -, hdrain⟩ := ht.unit
  obtain ⟨-, hst⟩ := hwin h v hv
  obtain ⟨u', hrec, rfl⟩ := inFlight_iff.mp (hdrain h v hv (hst hc))
  rw [ht.record] at hrec
  cases hrec
  rfl

theorem TornUnit.owned {d : DomainId} (hc : (s.domain d).clearing = true) :
    (s.ownedWindows d).length = if d = w.owner then 1 else 0 := by
  split
  · next hd =>
    subst hd
    refine length_eq_one_of_mem (nodup_ownedWindows s _) (h := u.window) fun x => ⟨fun hx => ?_, ?_⟩
    · obtain ⟨v, hv, ho⟩ := mem_ownedWindows.mp hx
      exact ht.eq_window hv (ho ▸ hc)
    · rintro rfl
      exact mem_ownedWindows.mpr ⟨w, ht.window, rfl⟩
  · next hd =>
    refine List.length_eq_zero_iff.mpr (List.eq_nil_iff_forall_not_mem.mpr fun x hx => ?_)
    obtain ⟨v, hv, ho⟩ := mem_ownedWindows.mp hx
    obtain rfl := ht.eq_window hv (ho ▸ hc)
    rw [ht.window] at hv
    cases hv
    exact hd ho.symm

theorem TornUnit.homed {d : DomainId} (hc : (s.domain d).clearing = true) (i : SlotId) :
    (s.homedWindows d i).length = if d = w.owner ∧ i = w.home then 1 else 0 := by
  split
  · next hd =>
    obtain ⟨rfl, rfl⟩ := hd
    refine length_eq_one_of_mem (nodup_homedWindows s _ _) (h := u.window) fun x => ⟨fun hx => ?_, ?_⟩
    · obtain ⟨v, hv, ho, -⟩ := mem_homedWindows.mp hx
      exact ht.eq_window hv (ho ▸ hc)
    · rintro rfl
      exact mem_homedWindows.mpr ⟨w, ht.window, rfl, rfl⟩
  · next hd =>
    refine List.length_eq_zero_iff.mpr (List.eq_nil_iff_forall_not_mem.mpr fun x hx => ?_)
    obtain ⟨v, hv, ho, hi⟩ := mem_homedWindows.mp hx
    obtain rfl := ht.eq_window hv (ho ▸ hc)
    rw [ht.window] at hv
    cases hv
    exact hd ⟨ho.symm, hi.symm⟩

theorem TornUnit.noneAwaited : (s.drainFreed u w).noneAwaited = true := by
  refine noneAwaited_iff.mpr fun d => ?_
  rw [drainFreed_domain]
  split
  · next hd =>
    show (s.domain d).awaited - 1 = 0
    rw [ht.awaited, if_pos hd]
  · next hd => rw [ht.awaited, if_neg hd]

/-- What is left of the slots of a domain under teardown: those of domain 0, with no home (R154, R157). -/
theorem TornUnit.slots (hcount : CountsAgree s) {d : DomainId} (hc : (s.domain d).clearing = true) (i : SlotId) :
    ((s.drainFreed u w).domain d).slots[i] =
      if d = 0 then ((s.domain d).slots[i]).map fun r => { r with homes := 0 } else none := by
  obtain ⟨-, -, -, hpresent⟩ := ht.teardown
  have hhomes := (hcount d).2 i
  rw [ht.homed hc] at hhomes
  rw [drainFreed_domain]
  by_cases hhome : d = w.owner ∧ i = w.home
  · obtain ⟨rfl, rfl⟩ := hhome
    rw [if_pos ⟨rfl, rfl⟩] at hhomes
    rw [if_pos rfl, Domain.lessDrained, getElem_set_fin, if_pos rfl, ← emptyUnused_no_homes]
    cases hs : (s.domain w.owner).slots[w.home] with
    | none => rfl
    | some r =>
      rw [hs] at hhomes
      have hr : r.lessHomes 1 = { r with homes := 0 } := by
        simp only [Option.elim_some] at hhomes
        simp [RangeSlot.lessHomes, hhomes]
      rw [Option.bind_some, Option.bind_some, hr]
  · rw [if_neg hhome] at hhomes
    have hslot : (if d = w.owner then (s.domain d).lessDrained w.owner w.home else s.domain d).slots[i] =
        (s.domain d).slots[i] := by
      split
      · next hd => rw [Domain.lessDrained, getElem_set_fin, if_neg fun hi => hhome ⟨hd, hi⟩]
      · rfl
    rw [hslot]
    cases hs : (s.domain d).slots[i] with
    | none => simp
    | some r =>
      rw [hs, Option.elim_some] at hhomes
      split
      · rw [Option.map_some, ← hhomes]
      · next hd => exact absurd (hpresent d hd hc i r hs) (by omega)

theorem TornUnit.held (hcount : CountsAgree s) {d : DomainId} (hc : (s.domain d).clearing = true) :
    ((s.drainFreed u w).domain d).held = 0 := by
  have hheld := (hcount d).1
  rw [ht.owned hc] at hheld
  rw [drainFreed_domain]
  split
  · next hd =>
    rw [if_pos hd] at hheld
    show (s.domain d).held - 1 = 0
    rw [hheld]
  · next hd => rw [hheld, if_neg hd]

theorem TornUnit.domain_other {d : DomainId} (hc : (s.domain d).clearing = false) :
    (s.drainFreed u w).domain d = s.domain d := by
  rw [drainFreed_domain, if_neg]
  rintro rfl
  rw [ht.clearing] at hc
  cases hc

end

end Sys2Proof.Machine

namespace Sys2Proof.Proofs

open Sys2Proof.Machine

/-- Settles O49: the one unit that any domain awaited has ended, so the teardown is complete. -/
theorem tornDownUnitEnds : Obligations.TornDownUnitEnds := by
  rintro s u i f w hend hw hclear ⟨hports, hholder, -, -, hunit, hteardown, -⟩ hcount
  have ht : TornUnit s u w := ⟨hports, hholder, hunit, hteardown, record_of_unitEnds hend, hw, hclear⟩
  let b := (s.recordGone u f).drainFreed u w
  have hdom : ∀ d, b.domain d = (s.drainFreed u w).domain d := fun d => by
    rw [drainFreed_domain, drainFreed_domain]
    rfl
  have hdone : b.noneAwaited = true :=
    noneAwaited_iff.mpr fun d => by rw [hdom, noneAwaited_iff.mp ht.noneAwaited]
  have hexec : exec i s = .next (b.finishDomains.updPort 0 Port.teardownDone).grantDecision := by
    rw [← finishTeardown_of_noneAwaited hdone, ← tornDownEnd_eq]
    cases f with
    | none => rw [unitEnds_ok hend, unitOk_clearing hw hclear, setRecord_none_eq]
    | some f =>
      rw [unitEnds_failed hend, unitFailed_clearing (s := s.setStale (staleAfter s u (some f))) hw f hclear]
      rfl
  have hfinished : ∀ d, b.finishDomains.domain d = finishedDomain d ((s.drainFreed u w).domain d) := fun d => by
    rw [finishDomains_domain, hdom]
  have hblocks : Frame (s.recordGone u f) b _ := frame_drainFreed
  have hch : (b.finishDomains.updPort 0 Port.teardownDone).channel u.channel = (s.channel u.channel).released :=
    (State.finishDomains_channel b u.channel).trans ((drainFreed_channel u.channel).trans (if_pos rfl))
  refine ⟨_, hexec, ?_, fun x hx => ?_, ?_, fun x hx => ?_, fun d hd => ?_, ?_, ?_, fun c hc => ?_, ?_, ?_,
    fun d => ?_, fun n cs hn => ?_, fun d hd => ?_, ?_⟩
  · exact (drainFreed_window (w := w) u.window).trans (if_pos rfl)
  · exact (drainFreed_window (w := w) x).trans (if_neg hx)
  · exact (drainFreed_pendingCauses (w := w) u.window).trans (if_pos rfl)
  · exact (drainFreed_pendingCauses (w := w) x).trans (if_neg hx)
  · exact drainFreed_notice_other (s := s.recordGone u f) hd
  · exact hch ▸ (channelAtReset_released _).1
  · exact hch ▸ (channelAtReset_released _).2
  · exact (drainFreed_channel (w := w) c).trans (if_neg hc)
  · rfl
  · rfl
  · generalize hm : (b.finishDomains.updPort 0 Port.teardownDone).domain d = y
    have hy : y = finishedDomain d ((s.drainFreed u w).domain d) := hm.symm.trans (hfinished d)
    obtain ⟨hstate, hquota, hclearing⟩ := drainFreed_kept (s := s) (u := u) (w := w) d
    cases hc : (s.domain d).clearing with
    | false =>
      rw [ht.domain_other hc, finishedDomain_not_clearing hc] at hy
      subst hy
      exact ⟨hc, fun _ => rfl, fun _ h => (nomatch h), fun hd => ⟨hd ▸ hports.1, rfl, fun h => (nomatch h)⟩⟩
    | true =>
      rw [hc] at hclearing
      have haw : ((s.drainFreed u w).domain d).awaited = 0 := noneAwaited_iff.mp ht.noneAwaited d
      have hslots := ht.slots hcount hc
      by_cases hd : d = 0
      · subst hd
        rw [finishedDomain_supervisor hclearing] at hy
        subst hy
        exact ⟨rfl, fun h => (nomatch h), fun h => absurd rfl h,
          fun _ => ⟨hstate.trans hports.1, hquota, fun _ => ⟨ht.held hcount hc, haw, fun i => (hslots i).trans (if_pos rfl)⟩⟩⟩
      · rw [finishedDomain_closes hclearing hd] at hy
        subst hy
        exact ⟨rfl, fun h => (nomatch h),
          fun _ _ => ⟨rfl, rfl, ht.held hcount hc, fun i => (hslots i).trans (if_neg hd), rfl, haw⟩, fun h => absurd h hd⟩
  · have hport : b.finishDomains.port 0 = s.port 0 := rfl
    rw [State.updPort_port, if_pos rfl, hport]
    rcases hn with hn | hn <;> rw [Port.teardownDone, hn] <;> rfl
  · exact (State.updPort_port _ _ _ _).trans (if_neg hd)
  · exact (((frame_recordGone s u f).mono (by simp)).trans (hblocks.mono (by simp))).trans
      (((frame_finishDomains b).mono (by simp)).trans (frame_updPort _ 0 _ |>.mono (by simp)))

end Sys2Proof.Proofs

/-! The structure of the part read record by record: what it says of one channel, one window, the unit in flight, one domain
and one port, and what a change confined to some channels has to show. -/

namespace Sys2Proof.Machine

/-! ## The structure, record by record -/

/-- What the channel-state table says of a channel record, `head` telling which state its head is in (R28, R33, R35,
R37). -/
abbrev RecordSound (ch : Channel) (head : WindowState → Prop) : Prop :=
  (ch.owner = none → ch.state = .off ∧ ch.chain = []) ∧
  (ch.disablePending = true → ch.state = .moving) ∧
  (ch.stall.isSome ↔ ch.state = .stalled) ∧
  (ch.state = .off → head .active) ∧
  (ch.state = .idle → ch.chain = []) ∧
  (ch.state = .armed → ch.chain ≠ [] ∧ head .active ∧ ch.effective = false) ∧
  (ch.state = .pending → ch.chain ≠ [] ∧ head .active ∧ ch.effective = true) ∧
  (ch.state = .stalled → head .linked)

/-- A window on the chain of a channel of its owner, at its head if ACTIVE (R35). -/
abbrev StandsOn (c : ChannelId) (ch : Channel) (h : Handle) (w : Window) : Prop :=
  w.state.onChain = true ∧ w.channel = some c ∧ ch.owner = some w.owner ∧ (w.state = .active → ch.chain.head? = some h)

/-- What the structure says of one channel (R28, R33, R35, R42, R51 to R53). -/
structure ChannelFits (s : State) (c : ChannelId) : Prop where
  nodup : ((s.channel c).chain).Nodup
  members : ∀ h ∈ (s.channel c).chain, ∃ w, s.window h = some w ∧ StandsOn c (s.channel c) h w
  sound : RecordSound (s.channel c) (HeadIs s c)
  domain : ∀ d, (s.channel c).owner = some d → (s.domain d).state ≠ .closed ∧
    ((s.domain d).clearing = true →
      (s.channel c).state = .moving ∧ (s.channel c).chain = [] ∧ (s.channel c).disablePending = false)
  disable : (s.channel c).disablePending = true →
    ∃ d, (s.channel c).owner = some d ∧ (s.port d).waiting = some (.disable c)
  unowned : (s.channel c).owner = none → ChannelAtReset (s.channel c)
  holder : (s.channel c).state = .moving ↔ s.arbiter.holder = some c

/-- What the structure says of one live window (R9, R35, R93, R137, R153). -/
structure WindowFits (s : State) (h : Handle) (w : Window) : Prop where
  chain : w.state.onChain = true → ∃ c, w.channel = some c ∧ h ∈ (s.channel c).chain
  draining : w.state = .draining → s.inFlight h = true
  domain : (s.domain w.owner).state ≠ .closed ∧ ((s.domain w.owner).clearing = true → w.state = .draining)

/-- The window of the unit in flight: the ACTIVE head, or DRAINING beside a LINKED head (R67, R93). -/
abbrev UnitWindow (s : State) (u : UnitRecord) (w : Window) : Prop :=
  w.channel = some u.channel ∧ (s.channel u.channel).owner = some w.owner ∧ RecordOf u w ∧
    ((w.state = .active ∧ (s.channel u.channel).chain.head? = some u.window) ∨
      (w.state = .draining ∧ HeadIs s u.channel .linked))

/-- What the structure says of the unit in flight (R34, R53, R67, R71, R84). -/
structure UnitFits (s : State) (u : UnitRecord) : Prop where
  holder : s.arbiter.holder = some u.channel
  cycle : u.phase = .busCycle → s.memory.stale = false
  window : ∃ w, s.window u.window = some w ∧ UnitWindow s u w

/-- What the structure says of one domain (R137, R152 to R154). -/
structure DomainFits (s : State) (d : DomainId) : Prop where
  closing : d ≠ 0 → ((s.domain d).clearing = true ↔ (s.domain d).state = .closing)
  awaited : (s.domain d).awaited = if (s.domain d).clearing then s.unitsOf d else 0
  slots : d ≠ 0 → (s.domain d).clearing = true → ∀ i : SlotId, ∀ r, (s.domain d).slots[i] = some r → 0 < r.homes
  command : (s.domain d).clearing = true → (s.port 0).inTeardown = true

/-- What the structure says of one port (R161, R167). -/
structure PortFits (s : State) (d : DomainId) : Prop where
  opened : (s.port d).busy = true → (s.domain d).state = .opened
  holds : ∀ x, (s.port d).waiting = some x → s.waitHolds d x = true

/-- The structure of the part, record by record; whether a grant is due and the reset values apart. -/
structure Structured (s : State) : Prop where
  supervisor : (s.domain 0).state = .opened
  channel : ∀ c, ChannelFits s c
  window : ∀ h w, s.window h = some w → WindowFits s h w
  held : s.arbiter.holder.isSome ↔ s.memory.record.isSome
  unit : ∀ u, s.memory.record = some u → UnitFits s u
  domain : ∀ d, DomainFits s d
  port : ∀ d, PortFits s d

theorem structureSound_iff {s : State} :
    StructureSound s ↔ Structured s ∧ NoGrantDue s ∧ (s.resetAsserted = true → AtResetValues s) := by
  constructor
  · rintro ⟨⟨h0, hclosing, hbusy⟩, ⟨hmoving, hholder⟩, ⟨hchain, hon⟩, hsound, ⟨hheld, hunit, hdrain⟩,
      ⟨hwdom, hcdom, hawait, hslots⟩, ⟨hwaits, hdisable, hcommand⟩, hunowned, hgrant, hreset⟩
    refine ⟨⟨h0, fun c => ?_, fun h w hw => ?_, hheld, fun u hu => ?_, fun d => ?_, fun d => ⟨hbusy d, hwaits d⟩⟩,
      hgrant, hreset⟩
    · exact ⟨(hchain c).1, (hchain c).2, hsound c, hcdom c, hdisable c, hunowned c, hmoving c⟩
    · exact ⟨hon h w hw, hdrain h w hw, hwdom h w hw⟩
    · exact ⟨hholder u hu, (hunit u hu).1, (hunit u hu).2⟩
    · exact ⟨hclosing d, hawait d, hslots d, hcommand d⟩
  · rintro ⟨hs, hgrant, hreset⟩
    exact ⟨⟨hs.supervisor, fun d => (hs.domain d).closing, fun d => (hs.port d).opened⟩,
      ⟨fun c => (hs.channel c).holder, fun u hu => (hs.unit u hu).holder⟩,
      ⟨fun c => ⟨(hs.channel c).nodup, (hs.channel c).members⟩, fun h w hw => (hs.window h w hw).chain⟩,
      fun c => (hs.channel c).sound,
      ⟨hs.held, fun u hu => ⟨(hs.unit u hu).cycle, (hs.unit u hu).window⟩, fun h w hw => (hs.window h w hw).draining⟩,
      ⟨fun h w hw => (hs.window h w hw).domain, fun c => (hs.channel c).domain, fun d => (hs.domain d).awaited,
        fun d => (hs.domain d).slots⟩,
      ⟨fun d => (hs.port d).holds, fun c => (hs.channel c).disable, fun d => (hs.domain d).command⟩,
      fun c => (hs.channel c).unowned, hgrant, hreset⟩

/-! ## What a sound structure says besides -/

theorem inFlight_unit {s : State} {u : UnitRecord} (hu : s.memory.record = some u) {h : Handle} :
    s.inFlight h = true ↔ h = u.window := by
  rw [inFlight_iff, hu]
  simp [eq_comm]

section
variable {s : State} (hs : Structured s)
include hs

/-- A MOVING channel is the unit's (R53, R67). -/
theorem Structured.unit_of_moving {c : ChannelId} (hc : (s.channel c).state = .moving) :
    ∃ u, s.memory.record = some u ∧ u.channel = c := by
  have hh := (hs.channel c).holder.mp hc
  obtain ⟨u, hu⟩ := Option.isSome_iff_exists.mp (hs.held.mp (by simp [hh]))
  refine ⟨u, hu, ?_⟩
  have := (hs.unit u hu).holder
  rw [hh] at this
  exact (Option.some.inj this).symm

theorem Structured.moving_of_unit {u : UnitRecord} (hu : s.memory.record = some u) :
    (s.channel u.channel).state = .moving := (hs.channel u.channel).holder.mpr (hs.unit u hu).holder

/-- An engaged window has a channel of its owner (R9, R35, R93). -/
theorem Structured.channel_of_engaged {h : Handle} {w : Window} (hw : s.window h = some w) (he : w.state.engaged = true) :
    ∃ c, w.channel = some c ∧ (s.channel c).owner = some w.owner := by
  have onChain : w.state.onChain = true → ∃ c, w.channel = some c ∧ (s.channel c).owner = some w.owner := fun hon => by
    obtain ⟨c, hc, hm⟩ := (hs.window h w hw).chain hon
    obtain ⟨v, hv, -, -, ho, -⟩ := (hs.channel c).members h hm
    rw [hw] at hv
    cases hv
    exact ⟨c, hc, ho⟩
  cases hst : w.state <;> simp only [hst, WindowState.engaged, Bool.false_eq_true] at he
  · exact onChain (by simp [hst, WindowState.onChain])
  · exact onChain (by simp [hst, WindowState.onChain])
  · obtain ⟨u, hu, rfl⟩ := inFlight_iff.mp ((hs.window h w hw).draining hst)
    obtain ⟨v, hv, hc, ho, -⟩ := (hs.unit u hu).window
    rw [hw] at hv
    cases hv
    exact ⟨_, hc, ho⟩

theorem Structured.member {c : ChannelId} {h : Handle} {w : Window} (hm : h ∈ (s.channel c).chain)
    (hw : s.window h = some w) : StandsOn c (s.channel c) h w := by
  obtain ⟨v, hv, hon⟩ := (hs.channel c).members h hm
  rw [hw] at hv
  cases hv
  exact hon

/-- The domain of a port that can take a command is under no teardown (R152, R161). -/
theorem Structured.not_clearing {d : DomainId} (ho : (s.domain d).state = .opened) (hb : (s.port d).waiting = none) :
    (s.domain d).clearing = false := by
  by_contra hc
  rw [Bool.not_eq_false] at hc
  by_cases hd : d = 0
  · subst hd
    have := (hs.domain 0).command hc
    simp [Port.inTeardown, hb] at this
  · have := ((hs.domain d).closing hd).mp hc
    rw [ho] at this
    cases this

end

/-! ## A change confined to some channels -/

/-- A window that the structure cannot tell from another: the fields that it reads are the same. -/
structure Window.Alike (v w : Window) : Prop where
  state : v.state = w.state
  owner : v.owner = w.owner
  channel : v.channel = w.channel
  direction : v.direction = w.direction
  size : v.size = w.size
  address : v.address = w.address
  remaining : v.remaining = w.remaining

theorem Window.Alike.refl (w : Window) : w.Alike w := ⟨rfl, rfl, rfl, rfl, rfl, rfl, rfl⟩

theorem Window.Alike.record {v w : Window} (h : v.Alike w) {u : UnitRecord} (hu : RecordOf u w) : RecordOf u v := by
  simpa only [RecordOf, h.direction, h.size, h.address, h.remaining] using hu

/-- A domain that may own what it owned, and is under no teardown that it was not under. -/
def KeepsDomain (s t : State) (d : DomainId) : Prop :=
  ((s.domain d).state ≠ .closed → (t.domain d).state ≠ .closed) ∧
    ((t.domain d).clearing = true → (s.domain d).clearing = true)

/-- A window in `t` that stood so in `s`, on no channel of `K` (with a domain that may go on to own it). -/
def KeptOutside (K : ChannelId → Prop) (s t : State) (h : Handle) (v : Window) : Prop :=
  ∃ w, s.window h = some w ∧ v.Alike w ∧ KeepsDomain s t w.owner ∧ (w.state = .draining → t.inFlight h = true) ∧
    (w.state.onChain = true → ∀ c, w.channel = some c → ¬ K c)

/-- The windows on channels outside `K`, and those channels, are as they were. -/
structure Outside (K : ChannelId → Prop) (s t : State) : Prop where
  channel : ∀ c, ¬ K c → t.channel c = s.channel c
  domain : ∀ c, ¬ K c → ∀ d, (s.channel c).owner = some d → KeepsDomain s t d
  holder : ∀ c, ¬ K c → (t.arbiter.holder = some c ↔ s.arbiter.holder = some c)
  disable : ∀ c, ¬ K c → ∀ d, (s.port d).waiting = some (.disable c) → (t.port d).waiting = some (.disable c)
  window : ∀ h w c, s.window h = some w → w.state.onChain = true → w.channel = some c → ¬ K c →
    ∃ v, t.window h = some v ∧ v.Alike w

section
variable {K : ChannelId → Prop} {s t : State} (hs : Structured s) (ho : Outside K s t)
include hs ho

theorem Outside.head {c : ChannelId} (hc : ¬ K c) {st : WindowState} (h : HeadIs s c st) : HeadIs t c st := by
  intro x hx
  rw [ho.channel c hc] at hx
  obtain ⟨w, hw, hst⟩ := h x hx
  have hm := hs.member (List.mem_of_head? hx) hw
  obtain ⟨v, hv, ha⟩ := ho.window x w c hw hm.1 hm.2.1 hc
  exact ⟨v, hv, ha.state.trans hst⟩

theorem Outside.channelFits {c : ChannelId} (hc : ¬ K c) : ChannelFits t c := by
  have hch := ho.channel c hc
  have fits := hs.channel c
  constructor
  case nodup => rw [hch]; exact fits.nodup
  case members =>
    rw [hch]
    intro h hm
    obtain ⟨w, hw, hon, hwc, hown, hhead⟩ := fits.members h hm
    obtain ⟨v, hv, ha⟩ := ho.window h w c hw hon hwc hc
    exact ⟨v, hv, by rw [ha.state]; exact hon, ha.channel.trans hwc, by rw [ha.owner]; exact hown,
      fun hst => hhead (ha.state ▸ hst)⟩
  case sound =>
    obtain ⟨h1, h2, h3, h4, h5, h6, h7, h8⟩ := fits.sound
    rw [hch]
    exact ⟨h1, h2, h3, fun e => ho.head hs hc (h4 e), h5, fun e => ⟨(h6 e).1, ho.head hs hc (h6 e).2.1, (h6 e).2.2⟩,
      fun e => ⟨(h7 e).1, ho.head hs hc (h7 e).2.1, (h7 e).2.2⟩, fun e => ho.head hs hc (h8 e)⟩
  case domain =>
    intro d hd
    rw [hch] at hd ⊢
    obtain ⟨hk, hclear⟩ := ho.domain c hc d hd
    exact ⟨hk (fits.domain d hd).1, fun h => (fits.domain d hd).2 (hclear h)⟩
  case disable =>
    rw [hch]
    intro h
    obtain ⟨d, hd, hp⟩ := fits.disable h
    exact ⟨d, hd, ho.disable c hc d hp⟩
  case unowned => rw [hch]; exact fits.unowned
  case holder => rw [hch, ho.holder c hc]; exact fits.holder

theorem Outside.windowFits {h : Handle} {v : Window} (hk : KeptOutside K s t h v) : WindowFits t h v := by
  obtain ⟨w, hw, ha, ⟨hclosed, hclear⟩, hflight, hout⟩ := hk
  have fits := hs.window h w hw
  refine ⟨fun hon => ?_, fun hst => hflight (ha.state ▸ hst), ?_⟩
  · rw [ha.state] at hon
    obtain ⟨c, hc, hm⟩ := fits.chain hon
    exact ⟨c, ha.channel.trans hc, by rw [ho.channel c (hout hon c hc)]; exact hm⟩
  · rw [ha.owner, ha.state]
    exact ⟨hclosed fits.domain.1, fun h => fits.domain.2 (hclear h)⟩

/-- The unit in flight of a channel outside `K`. -/
theorem Outside.unitFits {u : UnitRecord} (hu : s.memory.record = some u) (hc : ¬ K u.channel)
    (hm : t.memory = s.memory) (hd : ∀ w, s.window u.window = some w → w.state = .draining →
      ∃ v, t.window u.window = some v ∧ v.Alike w) : UnitFits t u := by
  have fits := hs.unit u hu
  obtain ⟨w, hw, hwc, hown, hrec, hst⟩ := fits.window
  have alike : ∃ v, t.window u.window = some v ∧ v.Alike w := by
    obtain ⟨ha, -⟩ | ⟨hdr, -⟩ := hst
    · exact ho.window _ w _ hw (by simp [ha, WindowState.onChain]) hwc hc
    · exact hd w hw hdr
  obtain ⟨v, hv, ha⟩ := alike
  refine ⟨(ho.holder _ hc).mpr fits.holder, fun h => by rw [hm]; exact fits.cycle h, v, hv, ha.channel.trans hwc, ?_,
    ha.record hrec, ?_⟩
  · rw [ho.channel _ hc, ha.owner]
    exact hown
  · rw [ho.channel _ hc, ha.state]
    exact hst.imp id (And.imp_right (ho.head hs hc))

/-- A change that leaves the channels outside `K` alone keeps the structure if what it makes of the others, of their windows
and of the unit, the domains and the ports fits. -/
theorem Structured.confined (hK : ∀ c, K c → ChannelFits t c)
    (hw : ∀ h v, t.window h = some v → KeptOutside K s t h v ∨ WindowFits t h v)
    (h0 : (t.domain 0).state = .opened) (hheld : t.arbiter.holder.isSome ↔ t.memory.record.isSome)
    (hunit : ∀ u, t.memory.record = some u → UnitFits t u) (hdom : ∀ d, DomainFits t d) (hport : ∀ d, PortFits t d) :
    Structured t where
  supervisor := h0
  channel := fun c => by
    by_cases hc : K c
    · exact hK c hc
    · exact ho.channelFits hs hc
  window := fun h v hv => (hw h v hv).elim (ho.windowFits hs) id
  held := hheld
  unit := hunit
  domain := hdom
  port := hport

end

end Sys2Proof.Machine

namespace Sys2Proof.Machine

/-! ## A change of channels and windows alone -/

theorem engaged_of_onChain {st : WindowState} (h : st.onChain = true) : st.engaged = true := by
  cases st <;> simp_all [WindowState.onChain, WindowState.engaged]

theorem off_of_not_engaged {st : WindowState} (h : st.engaged = false) : st.onChain = false ∧ st ≠ .draining := by
  cases st <;> simp_all [WindowState.onChain, WindowState.engaged]

theorem unitsOf_congr {s t : State} {d : DomainId}
    (h : ∀ c, ((t.channel c).owner = some d ∧ (t.channel c).state = .moving) ↔
      ((s.channel c).owner = some d ∧ (s.channel c).state = .moving)) : t.unitsOf d = s.unitsOf d := by
  unfold State.unitsOf
  congr 1
  rw [Bool.eq_iff_iff]
  simp [h]

theorem noneAwaited_congr {s t : State} (h : ∀ d, (t.domain d).awaited = (s.domain d).awaited) :
    t.noneAwaited = s.noneAwaited := by
  unfold State.noneAwaited
  simp only [h]

/-- A domain record that the structure cannot tell from another. -/
structure Domain.Alike (y x : Domain) : Prop where
  state : y.state = x.state
  clearing : y.clearing = x.clearing
  awaited : y.awaited = x.awaited
  slots : x.clearing = true → y.slots = x.slots

theorem Domain.Alike.refl (x : Domain) : x.Alike x := ⟨rfl, rfl, rfl, fun _ => rfl⟩

/-- A change that leaves port holder, memory port, waiting commands and domains as the structure reads them, the channels
outside `K` with their windows, and every DRAINING window. -/
structure Local (K : ChannelId → Prop) (s t : State) : Prop where
  domain : ∀ d, (t.domain d).Alike (s.domain d)
  waiting : ∀ d, (t.port d).waiting = (s.port d).waiting
  holder : t.arbiter.holder = s.arbiter.holder
  memory : t.memory = s.memory
  channel : ∀ c, ¬ K c → t.channel c = s.channel c
  owner : ∀ c, K c → (s.channel c).state = .moving → (t.channel c).owner = (s.channel c).owner ∧
    ((s.channel c).disablePending = true → (t.channel c).disablePending = true)
  window : ∀ h w, s.window h = some w → w.state.engaged = true →
    (w.state = .draining ∨ ∀ c, w.channel = some c → ¬ K c) → ∃ v, t.window h = some v ∧ v.Alike w

theorem Local.of_frame {K : ChannelId → Prop} {s t : State} (hf : Frame s t [.windows, .causes, .channels, .notices])
    (channel : ∀ c, ¬ K c → t.channel c = s.channel c)
    (owner : ∀ c, K c → (s.channel c).state = .moving → (t.channel c).owner = (s.channel c).owner ∧
      ((s.channel c).disablePending = true → (t.channel c).disablePending = true))
    (window : ∀ h w, s.window h = some w → w.state.engaged = true →
      (w.state = .draining ∨ ∀ c, w.channel = some c → ¬ K c) → ∃ v, t.window h = some v ∧ v.Alike w) : Local K s t where
  domain := fun d => by rw [hf.same_domain (by simp)]; exact .refl _
  waiting := fun d => by rw [hf.same_port (by simp)]
  holder := congrArg Arbiter.holder (hf .arbiter (by simp))
  memory := hf .memory (by simp)
  channel := channel
  owner := owner
  window := window

/-- A window in `t` that stood so in `s`, on no chain of `K`. -/
def StoodOutside (K : ChannelId → Prop) (s : State) (h : Handle) (v : Window) : Prop :=
  ∃ w, s.window h = some w ∧ v.Alike w ∧ (w.state.onChain = true → ∀ c, w.channel = some c → ¬ K c)

/-- A wait for the DRAINING window of the unit in flight goes on while the window does. -/
theorem drainWait_congr {s t : State} {h : Handle} {p : DomainId → Bool} (hin : t.inFlight h = s.inFlight h)
    (hw : ∀ w, s.window h = some w → w.state = .draining → p w.owner = true →
      ∃ v, t.window h = some v ∧ v.state = w.state ∧ v.owner = w.owner)
    (hh : (s.inFlight h && (s.window h).any fun w => w.state == .draining && p w.owner) = true) :
    (t.inFlight h && (t.window h).any fun w => w.state == .draining && p w.owner) = true := by
  simp only [Bool.and_eq_true, Option.any_eq_true, beq_iff_eq] at hh ⊢
  obtain ⟨hf, w, hws, hst, hp⟩ := hh
  obtain ⟨v, hv, hvs, hvo⟩ := hw w hws hst hp
  exact ⟨hin.trans hf, v, hv, hvs.trans hst, by rw [hvo]; exact hp⟩

section
variable {K : ChannelId → Prop} {s t : State} (hs : Structured s) (hl : Local K s t)
include hl

theorem Local.keepsDomain (d : DomainId) : KeepsDomain s t d :=
  ⟨fun h => by rw [(hl.domain d).state]; exact h, fun h => by rw [← (hl.domain d).clearing]; exact h⟩

theorem Local.inFlight (h : Handle) : t.inFlight h = s.inFlight h := by
  simp only [State.inFlight, hl.memory]

theorem Local.outside : Outside K s t where
  channel := hl.channel
  domain := fun _ _ d _ => hl.keepsDomain d
  holder := fun c _ => by rw [hl.holder]
  disable := fun c _ d h => by rw [hl.waiting]; exact h
  window := fun h w c hw hon hc hk =>
    hl.window h w hw (engaged_of_onChain hon) (.inr fun x hx => by rw [hc] at hx; cases hx; exact hk)

include hs

theorem Local.unitsOf (hK : ∀ c, K c → ChannelFits t c) (d : DomainId) : t.unitsOf d = s.unitsOf d := by
  refine unitsOf_congr fun c => ?_
  by_cases hc : K c
  · rw [(hK c hc).holder, hl.holder, ← (hs.channel c).holder]
    exact and_congr_left fun hm => by rw [(hl.owner c hc hm).1]
  · rw [hl.channel c hc]

theorem Local.domainFits (hK : ∀ c, K c → ChannelFits t c) (d : DomainId) : DomainFits t d := by
  have fits := hs.domain d
  have ha := hl.domain d
  refine ⟨fun hd => by rw [ha.clearing, ha.state]; exact fits.closing hd, ?_, fun hd hc => ?_, fun hc => ?_⟩
  · rw [ha.awaited, ha.clearing, hl.unitsOf hs hK]
    exact fits.awaited
  · rw [ha.clearing] at hc
    rw [ha.slots hc]
    exact fits.slots hd hc
  · rw [ha.clearing] at hc
    have := fits.command hc
    simpa only [Port.inTeardown, hl.waiting] using this

/-- A wait of the domain's port that held goes on to hold. -/
theorem Local.waitHolds {d : DomainId} {x : Waiting} (hx : s.waitHolds d x = true) : t.waitHolds d x = true := by
  have stays : ∀ h w, s.window h = some w → w.state = .draining →
      ∃ v, t.window h = some v ∧ v.state = w.state ∧ v.owner = w.owner := fun h w hw hst => by
    obtain ⟨v, hv, ha⟩ := hl.window h w hw (by simp [hst, WindowState.engaged]) (.inl hst)
    exact ⟨v, hv, ha.state, ha.owner⟩
  cases x with
  | revoke h =>
    exact drainWait_congr (p := fun o => o == d || d == 0) (hl.inFlight h) (fun w hw hst _ => stays h w hw hst) hx
  | cut h n => exact drainWait_congr (p := fun o => o == d) (hl.inFlight h) (fun w hw hst _ => stays h w hw hst) hx
  | disable c =>
    simp only [State.waitHolds, Bool.and_eq_true, beq_iff_eq] at hx ⊢
    by_cases hc : K c
    · obtain ⟨-, hmov, -⟩ := (hs.channel c).sound
      obtain ⟨howner, hdis⟩ := hl.owner c hc (hmov hx.1)
      exact ⟨hdis hx.1, howner.trans hx.2⟩
    · rw [hl.channel c hc]
      exact hx
  | close n cs =>
    rw [State.waitHolds, noneAwaited_congr fun d => (hl.domain d).awaited]
    exact hx
  | masterClear n cs =>
    rw [State.waitHolds, noneAwaited_congr fun d => (hl.domain d).awaited]
    exact hx

theorem Local.portFits (d : DomainId) : PortFits t d := by
  refine ⟨fun h => ?_, fun x hx => ?_⟩
  · rw [(hl.domain d).state]
    exact (hs.port d).opened (by rw [Port.busy, hl.waiting] at h; exact h)
  · rw [hl.waiting] at hx
    exact hl.waitHolds hs ((hs.port d).holds x hx)

/-- A change of channels and windows keeps the structure if what it makes of the channels of `K`, of their windows and of a
unit of theirs fits. -/
theorem Structured.local (hK : ∀ c, K c → ChannelFits t c)
    (hw : ∀ h v, t.window h = some v → StoodOutside K s h v ∨ WindowFits t h v)
    (hu : ∀ u, s.memory.record = some u → K u.channel → UnitFits t u) : Structured t := by
  refine hs.confined hl.outside hK (fun h v hv => (hw h v hv).imp_left ?_) ?_ ?_ (fun u hu' => ?_)
    (hl.domainFits hs hK) (hl.portFits hs)
  · rintro ⟨w, hw, ha, hout⟩
    refine ⟨w, hw, ha, hl.keepsDomain _, fun hst => ?_, hout⟩
    rw [hl.inFlight]
    exact (hs.window h w hw).draining hst
  · rw [(hl.domain 0).state]
    exact hs.supervisor
  · rw [hl.holder, hl.memory]
    exact hs.held
  · rw [hl.memory] at hu'
    by_cases hc : K u.channel
    · exact hu u hu' hc
    · exact hl.outside.unitFits hs hu' hc hl.memory fun w hw hst =>
        hl.window _ w hw (by simp [hst, WindowState.engaged]) (.inl hst)

end

/-! ## A change of nothing that the structure reads -/

/-- Windows that are alike, and channels, port holder and memory port as they were. -/
theorem Structured.congr {s t : State} (hs : Structured s) (hd : ∀ d, (t.domain d).Alike (s.domain d))
    (hp : ∀ d, (t.port d).waiting = (s.port d).waiting) (ha : t.arbiter.holder = s.arbiter.holder)
    (hm : t.memory = s.memory) (hc : t.channels = s.channels) (hw : t.windows = s.windows) : Structured t := by
  have hwin : ∀ h, t.window h = s.window h := fun h => by simp only [State.window, hw]
  have hl : Local (fun _ => False) s t :=
    { domain := hd, waiting := hp, holder := ha, memory := hm
      channel := fun c _ => by simp only [State.channel, hc]
      owner := fun _ h => h.elim
      window := fun h w hw _ _ => ⟨w, (hwin h).trans hw, .refl w⟩ }
  exact hs.local hl (fun _ h => h.elim) (fun h v hv => .inl ⟨v, (hwin h).symm.trans hv, .refl v, fun _ _ _ h => h⟩)
    fun _ _ h => h.elim

/-- Windows off every chain may come, go or change, and a window may change in what the structure does not read. -/
theorem Structured.windows {s t : State} (hs : Structured s) (hd : ∀ d, (t.domain d).Alike (s.domain d))
    (hf : Frame s t [.windows, .causes, .domains, .notices])
    (hkeep : ∀ h w, s.window h = some w → w.state.engaged = true → ∃ v, t.window h = some v ∧ v.Alike w)
    (hback : ∀ h v, t.window h = some v → (∃ w, s.window h = some w ∧ v.Alike w) ∨
      (v.state.engaged = false ∧ (s.domain v.owner).state ≠ .closed ∧ (s.domain v.owner).clearing = false)) :
    Structured t := by
  have hl : Local (fun _ => False) s t :=
    { domain := hd
      waiting := fun d => by rw [hf.same_port (by simp)]
      holder := congrArg Arbiter.holder (hf .arbiter (by simp))
      memory := hf .memory (by simp)
      channel := fun c _ => hf.same_channel (by simp) c
      owner := fun _ h => h.elim
      window := fun h w hw he _ => hkeep h w hw he }
  refine hs.local hl (fun _ h => h.elim) (fun h v hv => (hback h v hv).imp ?_ ?_) fun _ _ h => h.elim
  · rintro ⟨w, hw, ha⟩
    exact ⟨w, hw, ha, fun _ _ _ h => h⟩
  · rintro ⟨he, hclosed, hclear⟩
    obtain ⟨hn, hdr⟩ := off_of_not_engaged he
    refine ⟨fun hon => by simp [hn] at hon, fun hst => absurd hst hdr, ?_, fun h => ?_⟩
    · rw [(hd _).state]
      exact hclosed
    · rw [(hd _).clearing, hclear] at h
      cases h

end Sys2Proof.Machine

namespace Sys2Proof.Machine

/-! ## One channel record, its chain as it was -/

theorem headIs_nil {s : State} {c : ChannelId} (h : (s.channel c).chain = []) (st : WindowState) : HeadIs s c st := by
  simp [HeadIs, h]

/-- Where the chains stand, the windows fit their chains as they did. -/
theorem WindowFits.of_chains {s t : State} {h : Handle} {w : Window} (fits : WindowFits s h w)
    (hc : ∀ c, (t.channel c).chain = (s.channel c).chain) (hd : t.domains = s.domains) (hm : t.memory = s.memory) :
    WindowFits t h w where
  chain := fun hon => by simpa only [hc] using fits.chain hon
  draining := fun hst => by simpa only [State.inFlight, hm] using fits.draining hst
  domain := by simpa only [State.domain, hd] using fits.domain

/-- A channel record changed, its chain, its owner and its disable pending kept, and MOVING neither entered nor left. -/
theorem Structured.updChannel {s : State} (hs : Structured s) (c : ChannelId) {f : Channel → Channel}
    (hkeep : (f (s.channel c)).chain = (s.channel c).chain ∧ (f (s.channel c)).owner = (s.channel c).owner ∧
      (f (s.channel c)).disablePending = (s.channel c).disablePending)
    (hmov : (f (s.channel c)).state = .moving ↔ (s.channel c).state = .moving)
    (hsound : ∀ head, (∀ st, (s.channel c).chain = [] → head st) → RecordSound (s.channel c) head →
      RecordSound (f (s.channel c)) head)
    (hun : (s.channel c).owner = none → ChannelAtReset (f (s.channel c))) : Structured (s.updChannel c f) := by
  obtain ⟨hchain, howner, hdis⟩ := hkeep
  have fits := hs.channel c
  have hch : (s.updChannel c f).channel c = f (s.channel c) := by simp
  have hother : ∀ x, ¬ x = c → (s.updChannel c f).channel x = s.channel x := fun x hx => by simp [hx]
  have hchains : ∀ x, ((s.updChannel c f).channel x).chain = (s.channel x).chain := fun x => by
    by_cases hx : x = c
    · rw [hx, hch, hchain]
    · rw [hother x hx]
  have hhead : ∀ x st, HeadIs (s.updChannel c f) x st ↔ HeadIs s x st := fun x st => by
    simp only [HeadIs, hchains, State.updChannel_window]
  have hl : Local (· = c) s (s.updChannel c f) :=
    .of_frame ((Frame.updChannel s c f).mono (by simp)) hother
      (fun x hx _ => by rw [hx, hch]; exact ⟨howner, fun h => hdis.trans h⟩)
      fun h w hw _ _ => ⟨w, hw, .refl w⟩
  refine hs.local hl (fun x hx => ?_) (fun h v hv => .inr ((hs.window h v hv).of_chains hchains rfl rfl)) fun u hu hx => ?_
  · subst hx
    constructor <;> rw [hch]
    case nodup => rw [hchain]; exact fits.nodup
    case members =>
      intro h hm
      rw [hchain] at hm
      obtain ⟨w, hw, hon, hwc, ho, hhd⟩ := fits.members h hm
      exact ⟨w, hw, hon, hwc, howner.trans ho, fun hst => by rw [hchain]; exact hhd hst⟩
    case sound =>
      have heads : HeadIs (s.updChannel x f) x = HeadIs s x := funext fun st => propext (hhead x st)
      rw [heads]
      exact hsound _ (fun st hn => headIs_nil hn st) fits.sound
    case domain =>
      intro d hd
      rw [howner] at hd
      obtain ⟨hclosed, hclear⟩ := fits.domain d hd
      exact ⟨hclosed, fun h => by rw [hmov, hchain, hdis]; exact hclear h⟩
    case disable => rw [hdis, howner]; exact fits.disable
    case unowned => rw [howner]; exact hun
    case holder => rw [hmov]; exact fits.holder
  · have ufits := hs.unit u hu
    obtain ⟨w, hw, hwc, ho, hrec, hst⟩ := ufits.window
    have howner' : ((s.updChannel c f).channel u.channel).owner = (s.channel u.channel).owner := by
      rw [hx, hch, howner]
    exact ⟨ufits.holder, ufits.cycle, w, hw, hwc, howner'.trans ho, hrec, by
      simp only [hchains, hhead]
      exact hst⟩

/-! ## Channels that settle (R33) -/

theorem settled_owner (ch : Channel) : ch.settled.owner = ch.owner := by
  unfold Channel.settled Channel.toIdle
  split <;> split <;> rfl

theorem settled_disablePending (ch : Channel) : ch.settled.disablePending = ch.disablePending := by
  unfold Channel.settled Channel.toIdle
  split <;> split <;> rfl

theorem settled_stall (ch : Channel) : ch.settled.stall = ch.stall := by
  unfold Channel.settled Channel.toIdle
  split <;> split <;> rfl

theorem settled_effective {ch : Channel} (h : ch.chain ≠ []) : ch.settled.effective = ch.effective := by
  unfold Channel.settled
  rw [if_neg (by simpa using h)]
  split <;> rfl

theorem settled_not_moving (ch : Channel) : ch.settled.state ≠ .moving := by
  rw [settled_state]
  split
  · simp
  · split <;> simp

/-- A settled channel is sound with an ACTIVE head (R33). -/
theorem RecordSound.settled {ch : Channel} {head : WindowState → Prop} (ho : ch.owner ≠ none)
    (hd : ch.disablePending = false) (hst : ch.stall = none) (hh : ch.chain ≠ [] → head .active) :
    RecordSound ch.settled head := by
  have hs := settled_state ch
  by_cases hc : ch.chain = []
  · simp [hc] at hs
    simp [RecordSound, settled_owner, settled_disablePending, settled_stall, hs, ho, hd, hst, hc]
  · have he := settled_effective hc
    cases hef : ch.effective <;> simp [hc, hef] at hs <;>
      simp [RecordSound, settled_owner, settled_disablePending, settled_stall, hs, he, ho, hd, hst, hc, hh hc, hef]

/-! ## The grant decision keeps the structure (R54, R56) -/

theorem grant_channel (s : State) (k : ClassId) (c x : ChannelId) :
    (s.grant k c).channel x = if x = c then { s.channel c with state := .moving, burst := 0 } else s.channel x := by
  refine (State.issue_channel _ c x).trans ((State.updChannel_channel _ c _ x).trans ?_)
  split
  · next h => exact h ▸ rfl
  · rfl

theorem grant_holder (s : State) (k : ClassId) (c : ChannelId) : (s.grant k c).arbiter.holder = some c := by
  simp [State.grant]

theorem frame_issue (s : State) (c : ChannelId) : Frame s (s.issue c) [.memory] := by
  obtain h | ⟨_, _, _, -, -, h⟩ := issue_cases s c <;> rw [h]
  · exact Frame.refl _ _
  · exact frame_setRecord _ _

theorem frame_grant (s : State) (k : ClassId) (c : ChannelId) : Frame s (s.grant k c) [.channels, .arbiter, .memory] :=
  (((Frame.arbiter s _).mono (by simp)).trans ((Frame.updChannel _ c _).mono (by simp))).trans
    ((frame_issue _ c).mono (by simp))

theorem issue_memory {s : State} {c : ChannelId} {h : Handle} {w : Window} (hc : (s.channel c).chain.head? = some h)
    (hw : s.window h = some w) : (s.issue c).memory = { s.memory with record := some (unitFor c h w) } := by
  unfold State.issue
  cases hl : (s.channel c).chain with
  | nil => simp [hl] at hc
  | cons x xs =>
    rw [hl, List.head?_cons, Option.some.injEq] at hc
    subst hc
    simp only [hw]
    rfl

theorem grant_memory {s : State} {k : ClassId} {c : ChannelId} {h : Handle} {w : Window}
    (hc : (s.channel c).chain.head? = some h) (hw : s.window h = some w) :
    (s.grant k c).memory = { s.memory with record := some (unitFor c h w) } := by
  have hch : ∀ a : Arbiter, ((({ s with arbiter := a } : State).updChannel c fun ch =>
      { ch with state := .moving, burst := 0 }).channel c).chain.head? = some h := fun a => by
    rw [State.updChannel_channel, if_pos rfl]
    exact hc
  exact issue_memory (hch _) hw

theorem recordOf_unitFor (c : ChannelId) (h : Handle) (w : Window) : RecordOf (unitFor c h w) w := by
  by_cases hd : w.direction = .check <;> simp [RecordOf, unitFor, hd]

theorem unitFor_not_busCycle (c : ChannelId) (h : Handle) (w : Window) : (unitFor c h w).phase ≠ .busCycle := by
  by_cases hd : w.direction = .check <;> simp [unitFor, hd]

section
variable {s : State} (hs : Structured s) (hfree : s.arbiter.holder = none)
include hs hfree

theorem Structured.no_record : s.memory.record = none := by
  rw [← Option.not_isSome_iff_eq_none, ← hs.held, hfree]
  simp

theorem Structured.not_moving (c : ChannelId) : (s.channel c).state ≠ .moving := fun h => by
  have := (hs.channel c).holder.mp h
  rw [hfree] at this
  cases this

theorem Structured.not_draining {h : Handle} {w : Window} (hw : s.window h = some w) : w.state ≠ .draining := fun hst => by
  have := (hs.window h w hw).draining hst
  simp [State.inFlight, hs.no_record hfree] at this

/-- While the port is free only a teardown waits. -/
theorem Structured.wait_of_free {d : DomainId} {x : Waiting} (hx : (s.port d).waiting = some x) :
    d = 0 ∧ s.noneAwaited = false ∧ ∃ n cs, x = .close n cs ∨ x = .masterClear n cs := by
  have hh := (hs.port d).holds x hx
  have hflight : ∀ h, s.inFlight h = false := fun h => by simp [State.inFlight, hs.no_record hfree]
  cases x with
  | revoke h => simp [State.waitHolds, hflight] at hh
  | cut h n => simp [State.waitHolds, hflight] at hh
  | disable c =>
    simp only [State.waitHolds, Bool.and_eq_true] at hh
    obtain ⟨-, hmov, -⟩ := (hs.channel c).sound
    exact absurd (hmov hh.1) (hs.not_moving hfree c)
  | close n cs =>
    simp only [State.waitHolds, Bool.and_eq_true, beq_iff_eq, Bool.not_eq_true'] at hh
    exact ⟨hh.1, hh.2, n, cs, .inl rfl⟩
  | masterClear n cs =>
    simp only [State.waitHolds, Bool.and_eq_true, beq_iff_eq, Bool.not_eq_true'] at hh
    exact ⟨hh.1, hh.2, n, cs, .inr rfl⟩

end

/-- The port, free before, has been granted to the channel `c`, and a unit issued against its ACTIVE head `h` (R56, R68). -/
structure GrantedTo (s t : State) (c : ChannelId) (h : Handle) (w : Window) : Prop where
  free : s.arbiter.holder = none
  pending : (s.channel c).state = .pending
  head : (s.channel c).chain.head? = some h
  active : s.window h = some w ∧ w.state = .active
  frame : Frame s t [.channels, .arbiter, .memory]
  holder : t.arbiter.holder = some c
  memory : t.memory = { s.memory with record := some (unitFor c h w) }
  self : t.channel c = { s.channel c with state := .moving, burst := 0 }
  others : ∀ x, x ≠ c → t.channel x = s.channel x

section
variable {s t : State} {c : ChannelId} {h : Handle} {w : Window} (hs : Structured s) (hx : GrantedTo s t c h w)
include hx

theorem GrantedTo.fields (x : ChannelId) :
    (t.channel x).chain = (s.channel x).chain ∧ (t.channel x).owner = (s.channel x).owner := by
  by_cases hxc : x = c
  · subst hxc
    rw [hx.self]
    exact ⟨rfl, rfl⟩
  · rw [hx.others x hxc]
    exact ⟨rfl, rfl⟩

theorem GrantedTo.domain (d : DomainId) : t.domain d = s.domain d := hx.frame.same_domain (by simp) d

theorem GrantedTo.port (d : DomainId) : t.port d = s.port d := hx.frame.same_port (by simp) d

theorem GrantedTo.window (y : Handle) : t.window y = s.window y := hx.frame.same_window (by simp) y

theorem GrantedTo.outside : Outside (· = c) s t where
  channel := hx.others
  domain := fun _ _ d _ => by rw [KeepsDomain, hx.domain]; exact ⟨id, id⟩
  holder := fun x hxc => by rw [hx.holder, hx.free]; simpa using fun e => hxc e.symm
  disable := fun x _ d hd => by rw [hx.port]; exact hd
  window := fun x v _ hv _ _ _ => ⟨v, (hx.window x).trans hv, .refl v⟩

include hs

theorem GrantedTo.standsOn : StandsOn c (s.channel c) h w := hs.member (List.mem_of_head? hx.head) hx.active.1

theorem GrantedTo.channelFits : ChannelFits t c := by
  have fits := hs.channel c
  obtain ⟨-, -, hown, -⟩ := hx.standsOn hs
  have hns : (s.channel c).stall = none := by
    obtain ⟨-, -, hstall, -⟩ := fits.sound
    rw [← Option.not_isSome_iff_eq_none, hstall, hx.pending]
    simp
  have hdis : (s.channel c).disablePending = false := by
    obtain ⟨-, hmov, -⟩ := fits.sound
    rw [← Bool.not_eq_true]
    exact fun hd => hs.not_moving hx.free c (hmov hd)
  constructor <;> rw [hx.self]
  case nodup => exact fits.nodup
  case members => exact fun y hy => by rw [hx.window]; exact fits.members y hy
  case sound => simp [RecordSound, hown, hns]
  case domain =>
    intro d hd
    rw [hx.domain]
    obtain ⟨hclosed, hclear⟩ := fits.domain d hd
    exact ⟨hclosed, fun hc => absurd (hclear hc).1 (by simp [hx.pending])⟩
  case disable => exact fun hd => by simp [hdis] at hd
  case unowned => exact fun hn => by simp [hown] at hn
  case holder => simp [hx.holder]

theorem GrantedTo.windowFits {y : Handle} {v : Window} (hv : t.window y = some v) : WindowFits t y v := by
  rw [hx.window] at hv
  have fits := hs.window y v hv
  refine ⟨fun hon => ?_, fun hst => absurd hst (hs.not_draining hx.free hv), by rw [hx.domain]; exact fits.domain⟩
  obtain ⟨x, hxc, hm⟩ := fits.chain hon
  exact ⟨x, hxc, by rw [(hx.fields x).1]; exact hm⟩

theorem GrantedTo.unitFits {u : UnitRecord} (hu : t.memory.record = some u) : UnitFits t u := by
  obtain ⟨-, hwc, hown, -⟩ := hx.standsOn hs
  obtain ⟨hchain, howner⟩ := hx.fields c
  have hhead : (t.channel c).chain.head? = some h := (congrArg List.head? hchain).trans hx.head
  rw [hx.memory] at hu
  cases hu
  exact ⟨hx.holder, fun hph => absurd hph (unitFor_not_busCycle c h w), w, (hx.window h).trans hx.active.1, hwc,
    howner.trans hown, recordOf_unitFor c h w, .inl ⟨hx.active.2, hhead⟩⟩

theorem GrantedTo.domainFits (d : DomainId) : DomainFits t d := by
  have fits := hs.domain d
  refine ⟨by rw [hx.domain]; exact fits.closing, ?_, by rw [hx.domain]; exact fits.slots,
    by rw [hx.domain, hx.port]; exact fits.command⟩
  rw [hx.domain, fits.awaited]
  split
  · next hc =>
    refine (unitsOf_congr fun x => ?_).symm
    by_cases hxc : x = c
    · subst hxc
      have hnot : (s.channel x).owner ≠ some d := fun ho => by
        have := (((hs.channel x).domain d ho).2 hc).1
        simp [hx.pending] at this
      simp [hx.self, hnot]
    · rw [hx.others x hxc]
  · rfl

theorem GrantedTo.portFits (d : DomainId) : PortFits t d := by
  refine ⟨by rw [hx.domain, hx.port]; exact (hs.port d).opened, fun y hy => ?_⟩
  rw [hx.port] at hy
  obtain ⟨rfl, hnone, n, cs, rfl | rfl⟩ := hs.wait_of_free hx.free hy <;>
    simp [State.waitHolds, noneAwaited_congr fun d => congrArg Domain.awaited (hx.domain d), hnone]

theorem GrantedTo.structured : Structured t :=
  hs.confined hx.outside (fun _ hc => hc ▸ hx.channelFits hs) (fun _ _ hv => .inr (hx.windowFits hs hv))
    (by rw [hx.domain]; exact hs.supervisor) (by rw [hx.holder, hx.memory]; simp) (fun _ hu => hx.unitFits hs hu)
    (hx.domainFits hs) (hx.portFits hs)

end

theorem Structured.grant {s : State} (hs : Structured s) (hfree : s.arbiter.holder = none) {k : ClassId} {c : ChannelId}
    (hp : (s.channel c).state = .pending) : Structured (s.grant k c) := by
  obtain ⟨-, -, -, -, -, -, hpending, -⟩ := (hs.channel c).sound
  obtain ⟨hne, hactive, -⟩ := hpending hp
  obtain ⟨h, hh⟩ : ∃ h, (s.channel c).chain.head? = some h := by
    cases hl : (s.channel c).chain with
    | nil => exact absurd hl hne
    | cons x xs => exact ⟨x, rfl⟩
  obtain ⟨w, hw, hst⟩ := hactive h hh
  have hgrant : GrantedTo s (s.grant k c) c h w :=
    { free := hfree, pending := hp, head := hh, active := ⟨hw, hst⟩, frame := frame_grant s k c
      holder := grant_holder s k c, memory := grant_memory hh hw, self := (grant_channel s k c c).trans (if_pos rfl)
      others := fun x hx => (grant_channel s k c x).trans (if_neg hx) }
  exact hgrant.structured hs

theorem Structured.grantDecision {s : State} (hs : Structured s) : Structured s.grantDecision := by
  obtain ⟨h, -⟩ | ⟨k, c, hfree, -, hw, h⟩ := grantDecision_cases s <;> rw [h]
  · exact hs
  · exact hs.grant hfree (winner_contends hw).1

/-- A class with no winner has no PENDING channel (R55). -/
theorem not_pending_of_winner {s : State} (h : s.winner = none) (c : ChannelId) : (s.channel c).state ≠ .pending := by
  intro hp
  simp only [State.winner, List.findSome?_eq_none_iff, List.mem_finRange, Option.map_eq_none_iff, List.find?_eq_none,
    forall_true_left] at h
  refine absurd (h (s.channel c).cls c ?_) (by simp [State.contends, hp])
  cases s.arbiter.policies[(s.channel c).cls] with
  | fixed => simp [searchOrder, channelIds]
  | rotate =>
    simp only [searchOrder, channelIds, List.mem_map, List.mem_finRange, true_and]
    exact ⟨c - (s.arbiter.pointers[(s.channel c).cls] + 1), add_sub_cancel _ c⟩

/-- After a grant decision no grant is due (R54). -/
theorem noGrantDue_grantDecision (s : State) : NoGrantDue s.grantDecision := by
  obtain ⟨h, hno⟩ | ⟨k, c, -, -, -, h⟩ := grantDecision_cases s <;> rw [h]
  · intro hfree hrun
    obtain hh | hh | hh := hno
    · exact absurd hfree hh
    · exact absurd hrun hh
    · exact not_pending_of_winner hh
  · intro hfree
    rw [grant_holder] at hfree
    cases hfree

/-- A change that frees no port, starts no arbiter and makes no channel PENDING makes no grant due. -/
theorem NoGrantDue.of_pending {s t : State} (h : NoGrantDue s) (hh : t.arbiter.holder = s.arbiter.holder)
    (hr : t.arbiter.run = .run → s.arbiter.run = .run)
    (hp : ∀ c, (t.channel c).state = .pending → (s.channel c).state = .pending) : NoGrantDue t :=
  fun hfree hrun c hc => h (hh ▸ hfree) (hr hrun) c (hp c hc)

end Sys2Proof.Machine

namespace Sys2Proof.Machine

/-! ## What a command has to show -/

/-- The structure, with no grant due. -/
structure Upheld (s : State) : Prop where
  structured : Structured s
  granted : NoGrantDue s

/-- A state in which a domain's port takes a command (R161, R162). -/
structure Taking (s : State) (d : DomainId) : Prop where
  upheld : Upheld s
  idle : (s.port d).waiting = none
  opened : (s.domain d).state = .opened

/-- The command's completion or wait upholds the structure. -/
def Upholds (x : Completion) (s : State) (d : DomainId) : Prop :=
  Upheld (x.apply s d) ∧ (x.apply s d).resetAsserted = s.resetAsserted

theorem Upheld.of_grantDecision {s : State} (hs : Structured s) : Upheld s.grantDecision :=
  ⟨hs.grantDecision, noGrantDue_grantDecision s⟩

/-- Port records that wait as they waited. -/
theorem Upheld.of_waiting {s : State} (hs : Upheld s) (d : DomainId) {f : Port → Port}
    (hf : (f (s.port d)).waiting = (s.port d).waiting) : Upheld (s.updPort d f) where
  structured := hs.structured.congr (fun _ => .refl _)
    (fun e => by by_cases he : e = d <;> simp [he, hf]) rfl rfl rfl rfl
  granted := hs.granted.congr rfl rfl

theorem Upheld.congr {s t : State} (hs : Upheld s) (hd : t.domains = s.domains) (hp : t.ports = s.ports)
    (ha : t.arbiter.holder = s.arbiter.holder) (hr : t.arbiter.run = .run → s.arbiter.run = .run)
    (hm : t.memory = s.memory) (hc : t.channels = s.channels) (hw : t.windows = s.windows) : Upheld t where
  structured := hs.structured.congr (fun d => by simp only [State.domain, hd]; exact .refl _)
    (fun d => by simp only [State.port, hp]) ha hm hc hw
  granted := hs.granted.of_pending ha hr fun c h => by simpa only [State.channel, hc] using h

section
variable {s : State} {d : DomainId}

theorem upholds_refused (hs : Taking s d) (o : OutcomeCode) : Upholds (.refused o) s d :=
  ⟨hs.upheld.of_waiting d (f := fun p => p.completed o noResults) hs.idle.symm, rfl⟩

theorem upholds_done {t : State} (ht : Upheld t) (hp : (t.port d).waiting = none)
    (hr : t.resetAsserted = s.resetAsserted) (r : Words4) : Upholds (.done t r) s d :=
  ⟨ht.of_waiting d (f := fun p => p.completed .done r) hp.symm, hr⟩

theorem upholds_done_of_frame {t : State} {l : List Block} (hs : Taking s d) (ht : Upheld t) (hf : Frame s t l)
    (hp : Block.ports ∉ l) (hr : Block.resetLine ∉ l) (r : Words4) : Upholds (.done t r) s d :=
  upholds_done ht (by rw [hf.same_port hp]; exact hs.idle) (hf .resetLine hr) r

theorem upholds_onChannel (hs : Taking s d) {t : BitVec 8} {k : ChannelId → Completion}
    (h : ∀ c, (s.channel c).owner = some d → Upholds (k c) s d) : Upholds (s.onChannel d t k) s d := by
  unfold State.onChannel
  split
  · exact upholds_refused hs _
  · split
    · next c _ ho => exact h c ho
    · exact upholds_refused hs _

theorem upholds_supervisor (hs : Taking s d) {x : Completion} (h : d = 0 → Upholds x s d) :
    Upholds (supervisor d x) s d := by
  unfold supervisor
  split
  · next hd => exact h hd
  · exact upholds_refused hs _

theorem upholds_onDomain (hs : Taking s d) {t : BitVec 8} {k : DomainId → Completion} (h : ∀ x, Upholds (k x) s d) :
    Upholds (onDomain t k) s d := by
  unfold onDomain
  split
  · exact upholds_refused hs _
  · exact h _

theorem upholds_onSlot (hs : Taking s d) {w : Word} {k : SlotId → Completion} (h : ∀ i, Upholds (k i) s d) :
    Upholds (onSlot w k) s d := by
  unfold onSlot
  split
  · exact upholds_refused hs _
  · exact h _

/-- A command that changes notice records and the clock at most. -/
theorem upholds_quiet (hs : Taking s d) {t : State} (hf : Frame s t [.notices, .clock]) (r : Words4) :
    Upholds (.done t r) s d :=
  upholds_done_of_frame hs (hs.upheld.congr (hf .domains (by simp)) (hf .ports (by simp))
    (congrArg Arbiter.holder (hf .arbiter (by simp)))
    (fun h => (congrArg Arbiter.run (hf .arbiter (by simp))).symm.trans h) (hf .memory (by simp))
    (hf .channels (by simp)) (hf .windows (by simp))) hf (by simp) (by simp) r

/-- The domain of a port that takes a command is under no teardown. -/
theorem Taking.not_clearing (hs : Taking s d) : (s.domain d).clearing = false :=
  hs.upheld.structured.not_clearing hs.opened hs.idle

end

/-- While the port of domain 0 takes a command no domain is under teardown (R152). -/
theorem Taking.no_teardown {s : State} (hs : Taking s 0) (d : DomainId) : (s.domain d).clearing = false := by
  by_contra hc
  have := (hs.upheld.structured.domain d).command (by simpa using hc)
  simp [Port.inTeardown, hs.idle] at this

/-! ## Commands that change one channel record -/

theorem RecordSound.not_disabled {ch : Channel} {head : WindowState → Prop} (h : RecordSound ch head)
    (hm : ch.state ≠ .moving) : ch.disablePending = false := by
  obtain ⟨-, hmov, -⟩ := h
  rw [← Bool.not_eq_true]
  exact fun hd => hm (hmov hd)

theorem RecordSound.not_stalled {ch : Channel} {head : WindowState → Prop} (h : RecordSound ch head)
    (hst : ch.state ≠ .stalled) : ch.stall = none := by
  obtain ⟨-, -, hstall, -⟩ := h
  rw [← Option.not_isSome_iff_eq_none, hstall]
  exact hst

/-- ARMED and PENDING follow a request that has changed (R30). -/
theorem RecordSound.followRequest {ch ch' : Channel} {head : WindowState → Prop} (h : RecordSound ch head)
    (howner : ch'.owner = ch.owner) (hstate : ch'.state = ch.state) (hchain : ch'.chain = ch.chain)
    (hdis : ch'.disablePending = ch.disablePending) (hstall : ch'.stall = ch.stall) :
    RecordSound ch'.followRequest head := by
  obtain ⟨h1, h2, h3, h4, h5, h6, h7, h8⟩ := h
  have heff : ch'.followRequest.effective = ch'.effective := by rw [followRequest_eq]; rfl
  have hst : ch'.followRequest.state =
      if ch.state = .armed ∨ ch.state = .pending then (if ch'.effective then .pending else .armed) else ch.state := by
    rw [followRequest_eq, ← hstate]
  obtain ⟨hchain', howner', hdis', hstall'⟩ : ch'.followRequest.chain = ch.chain ∧ ch'.followRequest.owner = ch.owner ∧
      ch'.followRequest.disablePending = ch.disablePending ∧ ch'.followRequest.stall = ch.stall := by
    rw [followRequest_eq]
    exact ⟨hchain, howner, hdis, hstall⟩
  rw [RecordSound, heff, hst, hchain', howner', hdis', hstall']
  cases hc : ch.state
  case armed =>
    obtain ⟨hne, hh, -⟩ := h6 hc
    cases ch'.effective <;> simp_all
  case pending =>
    obtain ⟨hne, hh, -⟩ := h7 hc
    cases ch'.effective <;> simp_all
  all_goals simp_all

theorem followRequest_fields (ch : Channel) :
    ch.followRequest.chain = ch.chain ∧ ch.followRequest.owner = ch.owner ∧
      ch.followRequest.disablePending = ch.disablePending ∧
      (ch.followRequest.state = .moving ↔ ch.state = .moving) := by
  rw [followRequest_eq]
  refine ⟨rfl, rfl, rfl, ?_⟩
  dsimp only
  split
  · next h => rcases h with h | h <;> split <;> simp [h]
  · rfl

section
variable {s : State} {d : DomainId} (hs : Taking s d)
include hs

theorem enableChannel_upholds (t : BitVec 8) : Upholds (enableChannel d t s) s d := by
  refine upholds_onChannel hs fun c ho => ?_
  split
  · exact upholds_refused hs _
  · next hoff =>
    rw [not_not] at hoff
    have fits := (hs.upheld.structured.channel c).sound
    refine upholds_done_of_frame hs (.of_grantDecision ?_) (Frame.updChannel_grantDecision s c _) (by simp) (by simp) _
    refine hs.upheld.structured.updChannel c ⟨settled_chain _, settled_owner _, settled_disablePending _⟩
      (by simp [settled_not_moving, hoff]) (fun head _ h => ?_) fun hn => by simp [ho] at hn
    obtain ⟨-, -, -, hactive, -⟩ := h
    exact .settled (by simp [ho]) (fits.not_disabled (by simp [hoff])) (fits.not_stalled (by simp [hoff]))
      fun _ => hactive hoff

/-- A written mask is followed (R43). -/
theorem withMask_structured (c : ChannelId) (ho : (s.channel c).owner = some d) (b : Bool) :
    Structured (s.updChannel c fun ch => ch.withMask b) := by
  by_cases hm : (s.channel c).masked = b
  · rw [updChannel_self (by simp [Channel.withMask, hm])]
    exact hs.upheld.structured
  · have hf : (s.channel c).withMask b = ({ s.channel c with masked := b } : Channel).followRequest := if_neg hm
    obtain ⟨hchain, howner, hdis, hmov⟩ := followRequest_fields { s.channel c with masked := b }
    refine hs.upheld.structured.updChannel c ?_ ?_ (fun head _ h => ?_) fun hn => by simp [ho] at hn
    · rw [hf]
      exact ⟨hchain, howner, hdis⟩
    · rw [hf]
      exact hmov
    · rw [hf]
      exact h.followRequest rfl rfl rfl rfl rfl

theorem maskChannel_upholds (t : BitVec 8) : Upholds (maskChannel d t s) s d := by
  refine upholds_onChannel hs fun c ho => ?_
  refine upholds_done_of_frame hs ⟨withMask_structured hs c ho true, ?_⟩ (Frame.updChannel s c _) (by simp) (by simp) _
  refine hs.upheld.granted.of_pending rfl id fun x hx => ?_
  by_cases hc : x = c
  · subst hc
    have hp : ((s.channel x).withMask true).state = .pending := by simpa using hx
    obtain ⟨-, -, -, -, -, harmed, -⟩ := (hs.upheld.structured.channel x).sound
    rw [withMask_true fun h => (harmed h).2.2] at hp
    split at hp
    · exact hp
    · dsimp only at hp
      split at hp
      · cases hp
      · exact hp
  · simpa [hc] using hx

theorem unmaskChannel_upholds (t : BitVec 8) : Upholds (unmaskChannel d t s) s d :=
  upholds_onChannel hs fun c ho => upholds_done_of_frame hs (.of_grantDecision (withMask_structured hs c ho false))
    (Frame.updChannel_grantDecision s c _) (by simp) (by simp) _

theorem setChannel_upholds (t : BitVec 8) : Upholds (setChannel d t s) s d := by
  refine upholds_onChannel hs fun c ho => ?_
  split
  · exact upholds_refused hs _
  · split
    · exact upholds_refused hs _
    · refine upholds_done_of_frame hs ⟨?_, ?_⟩ (Frame.updChannel s c _) (by simp) (by simp) _
      · exact hs.upheld.structured.updChannel c ⟨rfl, rfl, rfl⟩ Iff.rfl (fun _ _ h => h) fun hn => by simp [ho] at hn
      · refine hs.upheld.granted.of_pending rfl id fun x hx => ?_
        by_cases hc : x = c <;> simpa [hc] using hx

theorem pulseChannel_upholds (t : BitVec 8) : Upholds (pulseChannel d t s) s d := by
  refine upholds_onChannel hs fun c ho => ?_
  have fits := (hs.upheld.structured.channel c).sound
  have pulsed : (s.channel c).state = .armed ∨ (s.channel c).state = .pending →
      Structured (s.updChannel c fun ch => { ch with state := .pending, soft := true }) := fun hst => by
    refine hs.upheld.structured.updChannel c ⟨rfl, rfl, rfl⟩ ?_ (fun head _ h => ?_) fun hn => by simp [ho] at hn
    · rcases hst with hst | hst <;> simp [hst]
    · have hactive : (s.channel c).chain ≠ [] ∧ head .active := by
        obtain ⟨-, -, -, -, -, harmed, hpending, -⟩ := h
        rcases hst with hst | hst
        · exact ⟨(harmed hst).1, (harmed hst).2.1⟩
        · exact ⟨(hpending hst).1, (hpending hst).2.1⟩
      have hdis := fits.not_disabled (by rcases hst with hst | hst <;> simp [hst])
      have hstall := fits.not_stalled (by rcases hst with hst | hst <;> simp [hst])
      simp [RecordSound, ho, hdis, hstall, hactive, Channel.effective]
  have done := fun hst => upholds_done_of_frame hs (.of_grantDecision (pulsed hst))
    (Frame.updChannel_grantDecision s c _) (by simp) (by simp) noResults
  split
  · next hst => exact done (.inl hst)
  · next hst => exact done (.inr hst)
  all_goals exact upholds_refused hs _

theorem readChannel_upholds (t : BitVec 8) : Upholds (readChannel d t s) s d := by
  unfold readChannel
  split
  · exact upholds_refused hs _
  · next c _ =>
    split
    · exact upholds_refused hs _
    · refine upholds_done_of_frame hs ⟨?_, ?_⟩ (Frame.updChannel s c _) (by simp) (by simp) _
      · refine hs.upheld.structured.updChannel c ⟨rfl, rfl, rfl⟩ Iff.rfl (fun _ _ h => h) fun hn => ?_
        obtain ⟨h1, h2, h3, h4, h5, h6, h7, -, h9⟩ := (hs.upheld.structured.channel c).unowned hn
        exact ⟨h1, h2, h3, h4, h5, h6, h7, rfl, h9⟩
      · refine hs.upheld.granted.of_pending rfl id fun x hx => ?_
        by_cases hc : x = c <;> simpa [hc] using hx

end

/-! ## The ownership of a channel (R51, R149, R150) -/

/-- An OFF channel with an empty chain becomes another, with its settings at reset if unowned. -/
theorem Structured.updOff {s : State} (hs : Structured s) {c : ChannelId} {f : Channel → Channel}
    (hoff : (s.channel c).state = .off) (hchain : (s.channel c).chain = []) (hf : (f (s.channel c)).state = .off ∧
      (f (s.channel c)).chain = [] ∧ (f (s.channel c)).disablePending = false ∧ (f (s.channel c)).stall = none)
    (hun : (f (s.channel c)).owner = none → ChannelAtReset (f (s.channel c)))
    (hown : ∀ x, (f (s.channel c)).owner = some x → (s.domain x).state ≠ .closed ∧ (s.domain x).clearing = false) :
    Structured (s.updChannel c f) := by
  obtain ⟨hfoff, hfchain, hfdis, hfstall⟩ := hf
  have hch : (s.updChannel c f).channel c = f (s.channel c) := by simp
  have hother : ∀ x, ¬ x = c → (s.updChannel c f).channel x = s.channel x := fun x hx => by simp [hx]
  have hchains : ∀ x, ((s.updChannel c f).channel x).chain = (s.channel x).chain := fun x => by
    by_cases hx : x = c
    · rw [hx, hch, hfchain, hchain]
    · rw [hother x hx]
  have hmov : ∀ x, x = c → (s.channel x).state ≠ .moving := fun x hx => by simp [hx, hoff]
  have hl : Local (· = c) s (s.updChannel c f) :=
    .of_frame ((Frame.updChannel s c f).mono (by simp)) hother (fun x hx h => absurd h (hmov x hx))
      fun h w hw _ _ => ⟨w, hw, .refl w⟩
  refine hs.local hl (fun x hx => ?_) (fun h v hv => .inr ((hs.window h v hv).of_chains hchains rfl rfl)) fun u hu hx =>
    absurd (hs.moving_of_unit hu) (hmov _ hx)
  subst hx
  have hhead := headIs_nil (s := s.updChannel x f) (c := x) (by rw [hch, hfchain]) .active
  constructor <;> rw [hch]
  case nodup => simp [hfchain]
  case members => simp [hfchain]
  case sound => exact ⟨fun _ => ⟨hfoff, hfchain⟩, by simp [hfdis], by simp [hfoff, hfstall], fun _ => hhead,
    by simp [hfoff], by simp [hfoff], by simp [hfoff], by simp [hfoff]⟩
  case domain =>
    intro e he
    obtain ⟨hclosed, hclear⟩ := hown e he
    exact ⟨hclosed, fun h => absurd (hclear.symm.trans h) (by simp)⟩
  case disable => simp [hfdis]
  case unowned => exact hun
  case holder =>
    show _ ↔ s.arbiter.holder = some x
    rw [← (hs.channel x).holder, hfoff, hoff]

section
variable {s : State} {d : DomainId} (hs : Taking s d)
include hs

/-- A channel that ends OFF makes no grant due. -/
theorem Upheld.updOff {c : ChannelId} {f : Channel → Channel} (ht : Structured (s.updChannel c f))
    (hf : (f (s.channel c)).state ≠ .pending) : Upheld (s.updChannel c f) where
  structured := ht
  granted := hs.upheld.granted.of_pending rfl id fun x hx => by
    by_cases hc : x = c
    · subst hc
      exact absurd (by simpa using hx) hf
    · simpa [hc] using hx

theorem assignChannel_upholds (t : BitVec 8) : Upholds (assignChannel d t s) s d := by
  refine upholds_supervisor hs fun hd => ?_
  split
  · next c x _ _ =>
    split
    · exact upholds_refused hs _
    · next hopen =>
      rw [not_not] at hopen
      split
      · exact upholds_refused hs _
      · next hno =>
        rw [not_not] at hno
        obtain ⟨-, hoff, -, -, -, -, -, -, hchain, -, -, hdis, hstall⟩ := (hs.upheld.structured.channel c).unowned hno
        refine upholds_done_of_frame hs (.updOff hs ?_ (by simp [hoff])) (Frame.updChannel s c _) (by simp) (by simp) _
        refine hs.upheld.structured.updOff hoff hchain ⟨hoff, hchain, hdis, hstall⟩ (fun h => by cases h) fun e he => ?_
        cases he
        subst hd
        exact ⟨by simp [hopen], hs.no_teardown x⟩
  · exact upholds_refused hs _

theorem unassignChannel_upholds (t : BitVec 8) : Upholds (unassignChannel d t s) s d := by
  refine upholds_supervisor hs fun _ => ?_
  split
  · exact upholds_refused hs _
  · next c _ =>
    split
    · exact upholds_refused hs _
    · split
      · exact upholds_refused hs _
      · next hoff =>
        simp only [not_or, not_not] at hoff
        obtain ⟨hoff, hchain⟩ := hoff
        refine upholds_done_of_frame hs (.updOff hs ?_ (by simp [Channel.released, Channel.reset]))
          (Frame.updChannel s c _) (by simp) (by simp) _
        exact hs.upheld.structured.updOff hoff hchain (by simp [Channel.released, Channel.reset])
          (fun _ => (channelAtReset_released _).1) fun e he => by simp [Channel.released, Channel.reset] at he

/-! ## Commands of arbiter, clock, notices and domain settings -/

theorem setArbiter_upholds (t : BitVec 8) : Upholds (setArbiter d t s) s d := by
  refine upholds_supervisor hs fun _ => ?_
  split
  · exact upholds_refused hs _
  · next ps _ =>
    exact upholds_done_of_frame (t := { s with arbiter := { s.arbiter with policies := ps } }) hs
      (hs.upheld.congr rfl rfl rfl id rfl rfl rfl) (Frame.arbiter s _) (by simp) (by simp) _

theorem pauseArbiter_upholds (t : BitVec 8) : Upholds (pauseArbiter d t s) s d :=
  upholds_supervisor hs fun _ => upholds_done_of_frame (t := { s with arbiter := { s.arbiter with run := .paused } }) hs
    (hs.upheld.congr rfl rfl rfl (fun h => nomatch h) rfl rfl rfl) (Frame.arbiter s _) (by simp) (by simp) _

theorem runArbiter_upholds (t : BitVec 8) : Upholds (runArbiter d t s) s d :=
  upholds_supervisor hs fun _ => upholds_done_of_frame hs
    (.of_grantDecision (hs.upheld.structured.congr (t := s.running) (fun _ => .refl _) (fun _ => rfl) rfl rfl rfl rfl))
    (((Frame.arbiter s _).mono (by simp)).trans (Frame.grantDecision _)) (by simp) (by simp) _

/-- A domain record that stays as the structure reads it. -/
theorem Upheld.updDomain {x : DomainId} {f : Domain → Domain} (hx : (f (s.domain x)).Alike (s.domain x)) :
    Upheld (s.updDomain x f) where
  structured := hs.upheld.structured.congr
    (fun e => by
      by_cases he : e = x
      · subst he
        simpa using hx
      · simpa [he] using Domain.Alike.refl _) (fun _ => rfl) rfl rfl rfl rfl
  granted := hs.upheld.granted.congr rfl rfl

theorem setQuota_upholds (t : BitVec 8) : Upholds (setQuota d t s) s d := by
  refine upholds_supervisor hs fun _ => upholds_onDomain hs fun x => ?_
  dsimp only
  split
  · exact upholds_refused hs _
  · split
    · exact upholds_refused hs _
    · split
      · exact upholds_refused hs _
      · exact upholds_done_of_frame hs (.updDomain hs ⟨rfl, rfl, rfl, fun _ => rfl⟩) (Frame.updDomain s x _) (by simp)
          (by simp) _

theorem setRange_upholds (t : BitVec 8) : Upholds (setRange d t s) s d := by
  refine upholds_supervisor hs fun hd => upholds_onDomain hs fun x => upholds_onSlot hs fun i => ?_
  subst hd
  dsimp only
  split
  · exact upholds_refused hs _
  · split
    · exact upholds_refused hs _
    · split
      · exact upholds_refused hs _
      · exact upholds_done_of_frame hs
          (.updDomain hs ⟨rfl, rfl, rfl, fun hc => absurd ((hs.no_teardown x).symm.trans hc) (by simp)⟩)
          (Frame.updDomain s x _) (by simp) (by simp) _

theorem clearRange_upholds (t : BitVec 8) : Upholds (clearRange d t s) s d := by
  refine upholds_supervisor hs fun hd => upholds_onDomain hs fun x => upholds_onSlot hs fun i => ?_
  subst hd
  split
  · exact upholds_refused hs _
  · split
    · exact upholds_refused hs _
    · exact upholds_done_of_frame hs
        (.updDomain hs ⟨rfl, rfl, rfl, fun hc => absurd ((hs.no_teardown x).symm.trans hc) (by simp)⟩)
        (Frame.updDomain s x _) (by simp) (by simp) _

end

end Sys2Proof.Machine

namespace Sys2Proof.Machine

/-! ## A channel whose chain loses windows -/

theorem head?_filter_ne {l : List Handle} {h x : Handle} (hx : l.head? = some x) (hn : x ≠ h) :
    (l.filter fun y => y != h).head? = some x := by
  cases l with
  | nil => cases hx
  | cons y ys =>
    cases hx
    simp [hn]

/-- On a chain only the head is ACTIVE. -/
theorem Structured.linked_of_mem {s : State} (hs : Structured s) {c : ChannelId} {x : Handle} {w : Window}
    (hm : x ∈ (s.channel c).chain) (hw : s.window x = some w) (hn : (s.channel c).chain.head? ≠ some x) :
    w.state = .linked := by
  obtain ⟨hon, -, -, hhead⟩ := hs.member hm hw
  cases hst : w.state <;> simp [hst, WindowState.onChain] at hon
  · rfl
  · exact absurd (hhead hst) hn

/-- The chain of `c` in `t` is what is left of its chain in `s`, and its windows stand as they stood but for a head made
ACTIVE; the windows that left it stand on no chain. -/
structure ChainChange (s t : State) (c : ChannelId) : Prop where
  sub : ((t.channel c).chain).Sublist (s.channel c).chain
  head : ∀ x ∈ (t.channel c).chain, (s.channel c).chain.head? = some x → (t.channel c).chain.head? = some x
  owner : (t.channel c).owner = (s.channel c).owner
  inside : ∀ x ∈ (t.channel c).chain, ∀ w, s.window x = some w → ∃ v, t.window x = some v ∧ v.owner = w.owner ∧
    v.channel = w.channel ∧ (v.state = w.state ∨ (t.channel c).chain.head? = some x ∧ v.state = .active)
  outside : ∀ x ∈ (s.channel c).chain, x ∉ (t.channel c).chain → ∀ w v, s.window x = some w → t.window x = some v →
    v.owner = w.owner ∧ v.state.onChain = false ∧ (v.state = .draining → t.inFlight x = true)

section
variable {s t : State} {c : ChannelId} (hs : Structured s) (hx : ChainChange s t c)
include hs hx

theorem ChainChange.nodup : ((t.channel c).chain).Nodup := (hs.channel c).nodup.sublist hx.sub

theorem ChainChange.members :
    ∀ x ∈ (t.channel c).chain, ∃ v, t.window x = some v ∧ StandsOn c (t.channel c) x v := by
  intro x hm
  obtain ⟨w, hw, hon, hwc, hown, hhead⟩ := (hs.channel c).members x (hx.sub.subset hm)
  obtain ⟨v, hv, ho, hc, hst⟩ := hx.inside x hm w hw
  refine ⟨v, hv, ?_, hc.trans hwc, by rw [hx.owner, ho]; exact hown, fun ha => ?_⟩
  · obtain h | ⟨-, h⟩ := hst <;> rw [h]
    · exact hon
    · rfl
  · obtain h | ⟨h, -⟩ := hst
    · exact hx.head x hm (hhead (h ▸ ha))
    · exact h

/-- A window that stood on the chain fits. -/
theorem ChainChange.windowFits (hd : ∀ d, KeepsDomain s t d) {x : Handle} {v : Window}
    (hm : x ∈ (s.channel c).chain) (hv : t.window x = some v) : WindowFits t x v := by
  obtain ⟨w, hw, hon, hwc, -⟩ := (hs.channel c).members x hm
  have hnot : w.state ≠ .draining := fun h => by simp [h, WindowState.onChain] at hon
  have hdom : ∀ e : DomainId, e = w.owner → (t.domain e).state ≠ .closed ∧
      ((t.domain e).clearing = true → v.state = .draining) := fun e he => by
    obtain ⟨hclosed, hclear⟩ := (hs.window x w hw).domain
    exact he ▸ ⟨(hd _).1 hclosed, fun h => absurd (hclear ((hd _).2 h)) hnot⟩
  by_cases hmt : x ∈ (t.channel c).chain
  · obtain ⟨v', hv', ho, hc, hst⟩ := hx.inside x hmt w hw
    rw [hv] at hv'
    cases hv'
    refine ⟨fun _ => ⟨c, hc.trans hwc, hmt⟩, fun hdr => ?_, hdom _ ho⟩
    obtain h | ⟨-, h⟩ := hst
    · exact absurd (h ▸ hdr) hnot
    · rw [h] at hdr
      cases hdr
  · obtain ⟨ho, hoff, hdr⟩ := hx.outside x hm hmt w v hw hv
    exact ⟨fun h => by simp [hoff] at h, hdr, hdom _ ho⟩

end

/-- A change of one channel and of the windows of its chain keeps the structure. -/
theorem Structured.chainChange {s t : State} (hs : Structured s) {c : ChannelId} (hx : ChainChange s t c)
    (hf : Frame s t [.windows, .causes, .channels, .notices]) (hother : ∀ x, x ≠ c → t.channel x = s.channel x)
    (howner : (s.channel c).owner ≠ none)
    (hmov : (t.channel c).state = .moving ↔ (s.channel c).state = .moving)
    (hdis : (t.channel c).disablePending = (s.channel c).disablePending)
    (hwin : ∀ x, x ∉ (s.channel c).chain → t.window x = s.window x) (hsound : RecordSound (t.channel c) (HeadIs t c))
    (hunit : ∀ u, s.memory.record = some u → u.channel = c → UnitFits t u) : Structured t := by
  have hl : Local (· = c) s t := .of_frame hf hother (fun x hxc _ => by rw [hxc]; exact ⟨hx.owner, fun h => hdis.trans h⟩)
    fun h w hw _ hout => by
      refine ⟨w, (hwin h fun hm => ?_).trans hw, .refl w⟩
      obtain ⟨hon, hwc, -⟩ := hs.member hm hw
      exact hout.elim (fun h => by simp [h, WindowState.onChain] at hon) fun h => h c hwc rfl
  refine hs.local hl (fun x hxc => ?_) (fun h v hv => ?_) hunit
  · subst hxc
    have fits := hs.channel x
    refine ⟨hx.nodup hs, hx.members hs, hsound, fun d hd => ?_, fun hd => ?_, fun hn => ?_, ?_⟩
    · rw [hx.owner] at hd
      obtain ⟨hclosed, hclear⟩ := fits.domain d hd
      refine ⟨(hl.keepsDomain d).1 hclosed, fun h => ?_⟩
      obtain ⟨h1, h2, h3⟩ := hclear ((hl.keepsDomain d).2 h)
      exact ⟨hmov.mpr h1, List.sublist_nil.mp (h2 ▸ hx.sub), hdis.trans h3⟩
    · rw [hdis] at hd
      obtain ⟨d, ho, hp⟩ := fits.disable hd
      exact ⟨d, hx.owner.trans ho, by rw [hl.waiting]; exact hp⟩
    · exact absurd (hx.owner.symm.trans hn) howner
    · rw [hmov, hl.holder]
      exact fits.holder
  · by_cases hm : h ∈ (s.channel c).chain
    · exact .inr (hx.windowFits hs hl.keepsDomain hm hv)
    · rw [hwin h hm] at hv
      refine .inl ⟨v, hv, .refl v, fun hon x hwc hxc => hm ?_⟩
      obtain ⟨y, hy, hmy⟩ := (hs.window h v hv).chain hon
      rw [hwc] at hy
      cases hy
      exact hxc ▸ hmy

end Sys2Proof.Machine

namespace Sys2Proof.Machine

/-! ## A window leaves its chain -/

/-- The unit in flight fits on while its window stands and its channel has the head that it had. -/
theorem UnitFits.of_alike {s t : State} {u : UnitRecord} (fits : UnitFits s u)
    (hh : t.arbiter.holder = s.arbiter.holder) (hm : t.memory.stale = s.memory.stale)
    (hw : ∀ w, s.window u.window = some w → ∃ v, t.window u.window = some v ∧ v.Alike w)
    (ho : (t.channel u.channel).owner = (s.channel u.channel).owner)
    (hhead : ∀ w, s.window u.window = some w → w.state = .active → (s.channel u.channel).chain.head? = some u.window →
      (t.channel u.channel).chain.head? = some u.window)
    (hlinked : HeadIs s u.channel .linked → HeadIs t u.channel .linked) : UnitFits t u := by
  obtain ⟨hholder, hcycle, w, hws, hwc, hown, hrec, hst⟩ := fits
  obtain ⟨v, hv, ha⟩ := hw w hws
  refine ⟨hh.trans hholder, fun h => hm.trans (hcycle h), v, hv, ha.channel.trans hwc, by rw [ho, ha.owner]; exact hown,
    ha.record hrec, ?_⟩
  rw [ha.state]
  exact hst.imp (fun ⟨h1, h2⟩ => ⟨h1, hhead w hws h1 h2⟩) (And.imp_right hlinked)

theorem asHead_of_linked {w : Window} (h : w.state = .linked) : (asHead w).state = .active := by simp [asHead, h]

theorem asHead_state (w : Window) : (asHead w).state = w.state ∨ (asHead w).state = .active := by
  unfold asHead
  split
  · exact .inr rfl
  · exact .inl rfl

theorem asHead_fields (w : Window) : (asHead w).owner = w.owner ∧ (asHead w).channel = w.channel := by
  unfold asHead
  split <;> exact ⟨rfl, rfl⟩

section
variable {s : State} (hs : Structured s)
include hs

/-- Where the head is LINKED the whole chain is. -/
theorem Structured.all_linked {c : ChannelId} (hh : HeadIs s c .linked) {x : Handle} (hm : x ∈ (s.channel c).chain)
    {w : Window} (hw : s.window x = some w) : w.state = .linked := by
  by_cases hx : (s.channel c).chain.head? = some x
  · obtain ⟨v, hv, hst⟩ := hh x hx
    rw [hw] at hv
    cases hv
    exact hst
  · exact hs.linked_of_mem hm hw hx

theorem Structured.mem_chain {h : Handle} {w : Window} {c : ChannelId} (hw : s.window h = some w)
    (hon : w.state.onChain = true) (hc : w.channel = some c) : h ∈ (s.channel c).chain := by
  obtain ⟨x, hx, hm⟩ := (hs.window h w hw).chain hon
  rw [hc] at hx
  cases hx
  exact hm

/-- A window off every chain. -/
theorem Structured.not_mem {h : Handle} {w : Window} (hw : s.window h = some w) (hon : w.state.onChain = false)
    (c : ChannelId) : h ∉ (s.channel c).chain := fun hm => by
  have := (hs.member hm hw).1
  rw [hon] at this
  cases this

end

/-- `h` has left the chain of `c`, and the other windows of the chain stand as they stood, but perhaps for the head that has
been made ACTIVE. -/
structure Leaves (s t : State) (c : ChannelId) (h : Handle) : Prop where
  chain : (t.channel c).chain = (s.channel c).chain.filter fun x => x != h
  owner : (t.channel c).owner = (s.channel c).owner
  others : ∀ x ∈ (s.channel c).chain, x ≠ h → t.window x = s.window x ∨
    (t.channel c).chain.head? = some x ∧ t.window x = (s.window x).map asHead
  left : ∀ w v, s.window h = some w → t.window h = some v →
    v.owner = w.owner ∧ v.state.onChain = false ∧ (v.state = .draining → t.inFlight h = true)

section
variable {s t : State} {c : ChannelId} {h : Handle} (hs : Structured s) (hl : Leaves s t c h)
include hl

theorem Leaves.mem {x : Handle} : x ∈ (t.channel c).chain ↔ x ∈ (s.channel c).chain ∧ x ≠ h := by
  rw [hl.chain]
  simp

theorem Leaves.head? {x : Handle} (hx : (s.channel c).chain.head? = some x) (hn : x ≠ h) :
    (t.channel c).chain.head? = some x := by
  rw [hl.chain]
  exact head?_filter_ne hx hn

theorem Leaves.chainChange : ChainChange s t c where
  sub := by rw [hl.chain]; exact List.filter_sublist
  head := fun x hx hh => hl.head? hh (hl.mem.mp hx).2
  owner := hl.owner
  inside := fun x hx w hw => by
    obtain ⟨hm, hn⟩ := hl.mem.mp hx
    obtain h | ⟨hh, h⟩ := hl.others x hm hn <;> rw [h, hw]
    · exact ⟨w, rfl, rfl, rfl, .inl rfl⟩
    · exact ⟨asHead w, rfl, (asHead_fields w).1, (asHead_fields w).2, (asHead_state w).imp_right fun e => ⟨hh, e⟩⟩
  outside := fun x hx hxt w v hw hv => by
    have hxh : x = h := by
      by_contra hn
      exact hxt (hl.mem.mpr ⟨hx, hn⟩)
    subst hxh
    exact hl.left w v hw hv

/-- An ACTIVE head that stays stays the ACTIVE head. -/
theorem Leaves.head_kept (hne : ∀ x, (s.channel c).chain.head? = some x → x ≠ h) (hn : (s.channel c).chain ≠ [])
    (ha : HeadIs s c .active) (hwin : ∀ x ∈ (t.channel c).chain, t.window x = s.window x) :
    (t.channel c).chain ≠ [] ∧ HeadIs t c .active := by
  obtain ⟨y, hy⟩ : ∃ y, (s.channel c).chain.head? = some y := by
    cases hc : (s.channel c).chain with
    | nil => exact absurd hc hn
    | cons y ys => exact ⟨y, rfl⟩
  have hy' := hl.head? hy (hne y hy)
  refine ⟨fun e => by simp [e] at hy', fun x hx => ?_⟩
  have hxy : x = y := Option.some.inj (hx.symm.trans hy')
  subst hxy
  obtain ⟨v, hv, hva⟩ := ha x hy
  exact ⟨v, (hwin x (List.mem_of_head? hx)).trans hv, hva⟩

include hs

/-- What is left is LINKED if the head has left, or was LINKED itself. -/
theorem Leaves.rest_linked (hh : (s.channel c).chain.head? = some h ∨ HeadIs s c .linked) {x : Handle}
    (hx : x ∈ (t.channel c).chain) {w : Window} (hw : s.window x = some w) : w.state = .linked := by
  obtain ⟨hm, hn⟩ := hl.mem.mp hx
  obtain hh | hh := hh
  · exact hs.linked_of_mem hm hw fun e => hn (Option.some.inj (e.symm.trans hh))
  · exact hs.all_linked hh hm hw

/-- With no head made ACTIVE the next head is LINKED. -/
theorem Leaves.head_linked (hh : (s.channel c).chain.head? = some h ∨ HeadIs s c .linked)
    (hwin : ∀ x ∈ (t.channel c).chain, t.window x = s.window x) : HeadIs t c .linked := by
  intro x hx
  have hm := List.mem_of_head? hx
  obtain ⟨w, hw, -⟩ := (hs.channel c).members x (hl.mem.mp hm).1
  exact ⟨w, (hwin x hm).trans hw, hl.rest_linked hs hh hm hw⟩

/-- With the next head made ACTIVE it is. -/
theorem Leaves.head_active (hh : (s.channel c).chain.head? = some h ∨ HeadIs s c .linked)
    (hwin : ∀ x, (t.channel c).chain.head? = some x → t.window x = (s.window x).map asHead) : HeadIs t c .active := by
  intro x hx
  have hm := List.mem_of_head? hx
  obtain ⟨w, hw, -⟩ := (hs.channel c).members x (hl.mem.mp hm).1
  exact ⟨asHead w, by rw [hwin x hx, hw]; rfl, asHead_of_linked (hl.rest_linked hs hh hm hw)⟩

end

/-! ## REVOKE WINDOW keeps the structure (R87 to R92) -/

section
variable {s : State} {h : Handle} {w : Window} {c : ChannelId} (hs : Structured s) (hw : s.window h = some w)
  (hc : w.channel = some c)
include hs hw hc

theorem Structured.revokeLinked (hst : w.state = .linked) : Structured (s.revokeLinked h c) := by
  have hm := hs.mem_chain hw (by simp [hst, WindowState.onChain]) hc
  obtain ⟨-, -, hown, -⟩ := hs.member hm hw
  have hwin : ∀ x, x ≠ h → (s.revokeLinked h c).window x = s.window x := fun x hx => by
    rw [revokeLinked_window, if_neg hx]
  have hself : (s.revokeLinked h c).channel c =
      { s.channel c with chain := (s.channel c).chain.filter fun x => x != h } := by
    simp [State.revokeLinked, State.unlink]
  have hl : Leaves s (s.revokeLinked h c) c h :=
    { chain := by rw [hself]
      owner := by rw [hself]
      others := fun x _ hx => .inl (hwin x hx)
      left := fun v y hv hy => by
        rw [revokeLinked_window, if_pos rfl, hv] at hy
        cases hy
        simp [Window.parkedOff, WindowState.onChain] }
  have hkept : ∀ x ∈ ((s.revokeLinked h c).channel c).chain, (s.revokeLinked h c).window x = s.window x :=
    fun x hx => hwin x (hl.mem.mp hx).2
  have hlinked : HeadIs s c .linked → HeadIs (s.revokeLinked h c) c .linked := fun hh => hl.head_linked hs (.inr hh) hkept
  have hactive := fun ha : HeadIs s c .active => hl.head_kept (fun x hx e => by
    obtain ⟨v, hv, hva⟩ := ha x hx
    rw [e, hw] at hv
    cases hv
    rw [hst] at hva
    cases hva) (List.ne_nil_of_mem hm) ha hkept
  refine hs.chainChange hl.chainChange
    (((Frame.updWindow _ h _).mono (by simp)).trans ((Frame.unlink _ c h).mono (by simp)))
    (fun x hx => by simp [State.revokeLinked, State.unlink, hx]) (by simp [hown]) (by rw [hself]) (by rw [hself])
    (fun x hx => hwin x fun e => hx (by rw [e]; exact hm)) ?_ fun u hu huc => ?_
  · obtain ⟨h1, h2, h3, h4, h5, h6, h7, h8⟩ := (hs.channel c).sound
    have hchain := hl.chain
    rw [hself] at hchain ⊢
    rw [hself] at hactive
    exact ⟨fun e => by simp [hown] at e, h2, h3, fun e => (hactive (h4 e)).2,
      fun e => absurd (h5 e) (List.ne_nil_of_mem hm), fun e => ⟨(hactive (h6 e).2.1).1, (hactive (h6 e).2.1).2, (h6 e).2.2⟩,
      fun e => ⟨(hactive (h7 e).2.1).1, (hactive (h7 e).2.1).2, (h7 e).2.2⟩, fun e => hlinked (h8 e)⟩
  · subst huc
    have ufits := hs.unit u hu
    have huh : u.window ≠ h := fun e => by
      obtain ⟨v, hv, -, -, -, hvs⟩ := ufits.window
      rw [e, hw] at hv
      cases hv
      simp [hst] at hvs
    exact ufits.of_alike rfl rfl (fun v hv => ⟨v, (hwin _ huh).trans hv, .refl v⟩) hl.owner (fun v hv _ hh => hl.head? hh huh)
      hlinked

/-- An ACTIVE window with no unit of it in flight heads a channel that is OFF, ARMED or PENDING. -/
theorem Structured.state_of_activeHead (hst : w.state = .active) (hf : s.inFlight h = false) :
    (s.channel c).state = .off ∨ (s.channel c).state = .armed ∨ (s.channel c).state = .pending := by
  have hm := hs.mem_chain hw (by simp [hst, WindowState.onChain]) hc
  obtain ⟨-, -, -, hhead⟩ := hs.member hm hw
  have hh := hhead hst
  have hnot : ¬ HeadIs s c .linked := fun hl => by
    obtain ⟨v, hv, hvs⟩ := hl h hh
    rw [hw] at hv
    cases hv
    rw [hst] at hvs
    cases hvs
  obtain ⟨-, -, -, -, hidle, -, -, hstalled⟩ := (hs.channel c).sound
  cases hcs : (s.channel c).state <;> simp only [reduceCtorEq, or_true, or_false, or_self]
  case idle => exact List.ne_nil_of_mem hm (hidle hcs)
  case stalled => exact hnot (hstalled hcs)
  case moving =>
    obtain ⟨u, hu, huc⟩ := hs.unit_of_moving hcs
    subst huc
    obtain ⟨v, hv, -, -, -, ⟨-, hvh⟩ | ⟨-, hvl⟩⟩ := (hs.unit u hu).window
    · rw [hh] at hvh
      rw [(inFlight_unit hu).mpr (Option.some.inj hvh)] at hf
      cases hf
    · exact hnot hvl

theorem Structured.revokeActive (hst : w.state = .active) (hf : s.inFlight h = false) : Structured (s.revokeActive h c) := by
  have hm := hs.mem_chain hw (by simp [hst, WindowState.onChain]) hc
  obtain ⟨-, -, hown, hhead⟩ := hs.member hm hw
  have hstate := hs.state_of_activeHead hw hc hst hf
  have hself : (s.revokeActive h c).channel c =
      ({ s.channel c with chain := (s.channel c).chain.filter fun y => y != h } : Channel).settledIfWaiting := by
    rw [revokeActive_channel, if_pos rfl]
  generalize hrest : ({ s.channel c with chain := (s.channel c).chain.filter fun y => y != h } : Channel) = rest at hself
  have hch : rest.chain = (s.channel c).chain.filter fun y => y != h := by rw [← hrest]
  have hro : rest.owner = some w.owner := by rw [← hrest]; exact hown
  have hrs : rest.state = (s.channel c).state := by rw [← hrest]
  have hdis := (hs.channel c).sound.not_disabled (by rcases hstate with h | h | h <;> simp [h])
  have hrd : rest.disablePending = false := by
    rw [← hrest]
    exact hdis
  have hrl : rest.stall = none := by
    rw [← hrest]
    exact (hs.channel c).sound.not_stalled (by rcases hstate with h | h | h <;> simp [h])
  have hsettled : rest.settledIfWaiting = if rest.state = .off then rest else rest.settled := by
    rw [← hrs] at hstate
    rcases hstate with h | h | h <;> simp [Channel.settledIfWaiting, h]
  have hchain' : rest.settledIfWaiting.chain = rest.chain := by rw [hsettled]; split <;> simp
  have howner' : rest.settledIfWaiting.owner = rest.owner := by rw [hsettled]; split <;> simp [settled_owner]
  have hdis' : rest.settledIfWaiting.disablePending = rest.disablePending := by
    rw [hsettled]; split <;> simp [settled_disablePending]
  have hl : Leaves s (s.revokeActive h c) c h :=
    { chain := by rw [hself, hchain', hch]
      owner := by rw [hself, howner', hro, hown]
      others := fun x _ hx => by
        rw [revokeActive_window rfl, hself, hchain', hch]
        split
        · next hh => exact .inr ⟨hh, rfl⟩
        · exact .inl rfl
      left := fun v y hv hy => by
        rw [revokeActive_window rfl, if_neg (fun hh => by simpa using List.mem_of_head? hh), if_pos rfl, hv] at hy
        cases hy
        simp [Window.parkedOff, WindowState.onChain] }
  have hactive : HeadIs (s.revokeActive h c) c .active := hl.head_active hs (.inl (hhead hst)) fun x hx => by
    rw [hl.chain] at hx
    rw [revokeActive_window rfl, if_pos hx]
  refine hs.chainChange hl.chainChange ((frame_revokeActive s h c).mono (by simp))
    (fun x hx => by rw [revokeActive_channel, if_neg hx]) (by simp [hown]) ?_ ?_ (fun x hx => ?_) ?_ fun u hu huc => ?_
  · rw [hself, hsettled]
    have hnm : (s.channel c).state ≠ .moving := by rcases hstate with h | h | h <;> simp [h]
    refine iff_of_false ?_ hnm
    split
    · rw [hrs]; exact hnm
    · exact settled_not_moving _
  · rw [hself, hdis', hrd, hdis]
  · rw [revokeActive_window rfl, if_neg fun hh => hx (List.mem_filter.mp (List.mem_of_head? hh)).1,
      if_neg fun e => hx (by rw [e]; exact hm)]
  · rw [hself, hsettled]
    split
    · next hoff =>
      refine ⟨fun e => by simp [hro] at e, by simp [hrd], by simp [hrl, hoff], fun _ => hactive, ?_⟩
      simp [hoff]
    · exact .settled (by simp [hro]) hrd hrl fun _ => hactive
  · subst huc
    have := hs.moving_of_unit hu
    rcases hstate with h | h | h <;> simp [h] at this

/-- The unit's ACTIVE head starts to drain (R90). -/
theorem Structured.startDrain (hst : w.state = .active) (hf : s.inFlight h = true) : Structured (s.startDrain h c) := by
  have hm := hs.mem_chain hw (by simp [hst, WindowState.onChain]) hc
  obtain ⟨-, -, hown, hhead⟩ := hs.member hm hw
  obtain ⟨u, hu, rfl⟩ := inFlight_iff.mp hf
  have ufits := hs.unit u hu
  obtain ⟨v, hv, hvc, hvo, hrec, -⟩ := ufits.window
  rw [hw] at hv
  cases hv
  rw [hc] at hvc
  cases hvc
  have hmoving := hs.moving_of_unit hu
  have hwin : ∀ x, (s.startDrain u.window u.channel).window x =
      if x = u.window then some { w with state := .draining } else s.window x := fun x => by
    simp only [State.startDrain, State.unlink, State.updChannel_window, State.updWindow_window]
    split
    · rw [hw]; rfl
    · rfl
  have hself : (s.startDrain u.window u.channel).channel u.channel =
      { s.channel u.channel with chain := (s.channel u.channel).chain.filter fun x => x != u.window } := by
    simp [State.startDrain, State.unlink]
  have hl : Leaves s (s.startDrain u.window u.channel) u.channel u.window :=
    { chain := by rw [hself]
      owner := by rw [hself]
      others := fun x _ hx => .inl (by rw [hwin, if_neg hx])
      left := fun v y hv hy => by
        rw [hwin, if_pos rfl] at hy
        rw [hw] at hv
        cases hv
        cases hy
        exact ⟨rfl, rfl, fun _ => hf⟩ }
  refine hs.chainChange hl.chainChange
    (((Frame.updWindow _ _ _).mono (by simp)).trans ((Frame.unlink _ _ _).mono (by simp)))
    (fun x hx => by simp [State.startDrain, State.unlink, hx]) (by simp [hown]) (by rw [hself]) (by rw [hself])
    (fun x hx => by rw [hwin, if_neg fun e => hx (by rw [e]; exact hm)]) ?_ fun y hy _ => ?_
  · obtain ⟨h1, h2, h3, -⟩ := (hs.channel u.channel).sound
    rw [hself]
    exact ⟨fun e => by simp [hown] at e, h2, h3, by simp [hmoving], by simp [hmoving], by simp [hmoving],
      by simp [hmoving], by simp [hmoving]⟩
  · rw [hu] at hy
    cases hy
    refine ⟨ufits.holder, ufits.cycle, { w with state := .draining }, by rw [hwin, if_pos rfl], hc,
      by rw [hself]; exact hvo, hrec, .inr ⟨rfl, ?_⟩⟩
    exact hl.head_linked hs (.inl (hhead hst)) fun x hx => by rw [hwin, if_neg (hl.mem.mp hx).2]

end

end Sys2Proof.Machine

namespace Sys2Proof.Machine

/-! ## Waiting on the unit in flight -/

theorem waitHolds_updPort (s : State) (e d : DomainId) (f : Port → Port) (x : Waiting) :
    (s.updPort e f).waitHolds d x = s.waitHolds d x := by
  cases x <;> rfl

/-- An idle port starts to wait on the unit. -/
theorem Structured.startWait {s : State} (hs : Structured s) {d : DomainId} {x : Waiting}
    (ho : (s.domain d).state = .opened) (hp : (s.port d).waiting = none) (hx : s.waitHolds d x = true) :
    Structured (s.updPort d fun p => { p with waiting := some x }) := by
  have hself : ((s.updPort d fun p => { p with waiting := some x }).port d).waiting = some x := by simp
  have hother : ∀ e, e ≠ d → (s.updPort d fun p => { p with waiting := some x }).port e = s.port e := fun e he => by
    simp [he]
  have hout : Outside (fun _ => False) s (s.updPort d fun p => { p with waiting := some x }) :=
    { channel := fun _ _ => rfl
      domain := fun _ _ _ _ => ⟨id, id⟩
      holder := fun _ _ => Iff.rfl
      disable := fun c _ e he => by
        rw [hother e fun h => by rw [h, hp] at he; cases he]
        exact he
      window := fun _ w _ hw _ _ _ => ⟨w, hw, .refl w⟩ }
  refine hs.confined hout (fun _ h => h.elim) (fun h w hw => .inl ⟨w, hw, .refl w, ⟨id, id⟩, (hs.window h w hw).draining,
    fun _ _ _ h => h⟩) hs.supervisor hs.held (fun u hu => hout.unitFits hs hu not_false rfl fun w hw _ => ⟨w, hw, .refl w⟩)
    (fun e => ?_) fun e => ?_
  · refine ⟨(hs.domain e).closing, (hs.domain e).awaited, (hs.domain e).slots, fun hc => ?_⟩
    have hin := (hs.domain e).command hc
    have h0 : (0 : DomainId) ≠ d := fun h => by
      rw [h, Port.inTeardown, hp] at hin
      cases hin
    rw [hother 0 h0]
    exact hin
  · by_cases he : e = d
    · subst he
      refine ⟨fun _ => ho, fun y hy => ?_⟩
      rw [hself] at hy
      cases hy
      rw [waitHolds_updPort]
      exact hx
    · refine ⟨fun h => (hs.port e).opened (by rwa [hother e he] at h), fun y hy => ?_⟩
      rw [hother e he] at hy
      rw [waitHolds_updPort]
      exact (hs.port e).holds y hy

/-- A command starts to wait on the unit. -/
theorem upholds_waits_of_frame {s t : State} {d : DomainId} {l : List Block} (hs : Taking s d) (ht : Upheld t)
    (hf : Frame s t l) (hp : Block.ports ∉ l) (hd : Block.domains ∉ l) (hr : Block.resetLine ∉ l) {x : Waiting}
    (hx : t.waitHolds d x = true) : Upholds (.waits t x) s d :=
  ⟨⟨ht.structured.startWait (by rw [hf.same_domain hd]; exact hs.opened) (by rw [hf.same_port hp]; exact hs.idle) hx,
    ht.granted.congr rfl rfl⟩, hf .resetLine hr⟩

/-! ## REVOKE WINDOW -/

theorem frame_raiseOverride (s : State) (d : DomainId) (h : Handle) (w : Window) :
    Frame s (s.raiseOverride d h w) [.causes, .notices] := by
  unfold State.raiseOverride
  split
  · exact Frame.raise _ _ _
  · exact Frame.refl _ _

/-- The notice of an override touches nothing that the structure reads. -/
theorem Upheld.raiseOverride {s : State} (hs : Upheld s) (d : DomainId) (h : Handle) (w : Window) :
    Upheld (s.raiseOverride d h w) := by
  have hf := frame_raiseOverride s d h w
  exact hs.congr (hf .domains (by simp)) (hf .ports (by simp)) (congrArg Arbiter.holder (hf .arbiter (by simp)))
    (fun hr => (congrArg Arbiter.run (hf .arbiter (by simp))).symm.trans hr) (hf .memory (by simp))
    (hf .channels (by simp)) (hf .windows (by simp))

/-- A change under which the other channels stand and this one is PENDING only if it was makes no grant due. -/
theorem NoGrantDue.of_channel {s t : State} (h : NoGrantDue s) {c : ChannelId} {l : List Block} (hf : Frame s t l)
    (ha : Block.arbiter ∉ l) (hother : ∀ x, x ≠ c → t.channel x = s.channel x)
    (hp : (t.channel c).state = .pending → (s.channel c).state = .pending) : NoGrantDue t :=
  h.of_pending (congrArg Arbiter.holder (hf .arbiter ha)) (fun hr => (congrArg Arbiter.run (hf .arbiter ha)).symm.trans hr)
    fun x hx => by
      by_cases hc : x = c
      · subst hc
        exact hp hx
      · rwa [hother x hc] at hx

theorem settledIfWaiting_pending {ch : Channel} (hp : ch.settledIfWaiting.state = .pending)
    (h : ch.state = .off ∨ (ch.state = .armed ∧ ch.effective = false) ∨ ch.state = .pending) : ch.state = .pending := by
  obtain h | ⟨h, he⟩ | h := h
  · simp [Channel.settledIfWaiting, h] at hp
  · rw [Channel.settledIfWaiting, h] at hp
    simp only [settled_state, he] at hp
    split at hp
    · cases hp
    · simp at hp
  · exact h

theorem frame_revokeLinked (s : State) (h : Handle) (c : ChannelId) :
    Frame s (s.revokeLinked h c) [.windows, .channels] :=
  ((Frame.updWindow _ h _).mono (by simp)).trans ((Frame.unlink _ c h).mono (by simp))

theorem frame_startDrain (s : State) (h : Handle) (c : ChannelId) :
    Frame s (s.startDrain h c) [.windows, .channels] :=
  ((Frame.updWindow _ h _).mono (by simp)).trans ((Frame.unlink _ c h).mono (by simp))

/-- A revoke's change and the notice of its override. -/
theorem frame_revoked {s t : State} (hf : Frame s t [.windows, .channels]) (d : DomainId) (h : Handle) (w : Window) :
    Frame s (t.raiseOverride d h w) [.windows, .channels, .causes, .notices] :=
  (hf.mono (by simp)).trans ((frame_raiseOverride t d h w).mono (by simp))

section
variable {s : State} {d : DomainId} (hs : Taking s d)
include hs

theorem revokeWindow_upholds (t : BitVec 8) : Upholds (revokeWindow d t s) s d := by
  unfold revokeWindow
  split
  · exact upholds_refused hs _
  · next h w hl =>
    obtain ⟨-, hw⟩ := liveWindow_eq_some.mp hl
    split
    · exact upholds_refused hs _
    · next ho =>
      have hst := hs.upheld.structured
      split
      · next c hlinked hc =>
        have hf := frame_revokeLinked s h c
        have hup : Upheld (s.revokeLinked h c) := ⟨hst.revokeLinked hw hc hlinked,
          hs.upheld.granted.of_channel (c := c) hf (by simp) (fun x hx => by simp [State.revokeLinked, State.unlink, hx])
            fun hp => by simpa [State.revokeLinked, State.unlink] using hp⟩
        exact upholds_done_of_frame hs (hup.raiseOverride d h w) (frame_revoked hf d h w) (by simp) (by simp) _
      · next c hactive hc =>
        split
        · next hin =>
          have hf := frame_startDrain s h c
          have hup : Upheld (s.startDrain h c) := ⟨hst.startDrain hw hc hactive hin,
            hs.upheld.granted.of_channel (c := c) hf (by simp) (fun x hx => by simp [State.startDrain, State.unlink, hx])
              fun hp => by simpa [State.startDrain, State.unlink] using hp⟩
          have hfr := frame_revoked hf d h w
          refine upholds_waits_of_frame hs (hup.raiseOverride d h w) hfr (by simp) (by simp) (by simp) ?_
          have hwin : ((s.startDrain h c).raiseOverride d h w).window h = some { w with state := .draining } := by
            rw [(frame_raiseOverride _ d h w).same_window (by simp)]
            simp [State.startDrain, State.unlink, hw]
          have hflight : ((s.startDrain h c).raiseOverride d h w).inFlight h = true := by
            rw [State.inFlight, hfr .memory (by simp)]
            exact hin
          simp only [State.waitHolds, hflight, hwin, Option.any_some, beq_self_eq_true, Bool.true_and, Bool.or_eq_true,
            beq_iff_eq]
          exact Classical.not_and_iff_not_or_not.mp ho |>.imp not_not.mp not_not.mp
        · next hin =>
          rw [Bool.not_eq_true] at hin
          have hf := frame_revokeActive s h c
          have hup : Upheld (s.revokeActive h c) := by
            refine ⟨hst.revokeActive hw hc hactive hin, hs.upheld.granted.of_channel (c := c) hf (by simp)
              (fun x hx => by rw [revokeActive_channel, if_neg hx]) fun hp => ?_⟩
            rw [revokeActive_channel, if_pos rfl] at hp
            obtain ⟨-, -, -, -, -, harmed, -⟩ := (hst.channel c).sound
            have hstate : (s.channel c).state = .off ∨ ((s.channel c).state = .armed ∧ (s.channel c).effective = false) ∨
                (s.channel c).state = .pending :=
              (hst.state_of_activeHead hw hc hactive hin).imp_right (Or.imp_left fun h => ⟨h, (harmed h).2.2⟩)
            have hpending := settledIfWaiting_pending hp hstate
            exact hpending
          exact upholds_done_of_frame hs (hup.raiseOverride d h w) (frame_revoked hf d h w) (by simp) (by simp) _
      · exact upholds_refused hs _

end

end Sys2Proof.Machine

namespace Sys2Proof.Machine

/-! ## CUT CHAIN keeps the structure (R45, R46) -/

theorem cut_fields (ch : Channel) :
    ch.cut.chain = [] ∧ ch.cut.owner = ch.owner ∧ ch.cut.stall = none ∧ ch.cut.disablePending = ch.disablePending ∧
      (ch.cut.state = .moving ↔ ch.state = .moving) ∧
      (ch.cut.state = .off ∨ ch.cut.state = .idle ∨ ch.cut.state = .moving) := by
  rw [cut_eq]
  cases hst : ch.state <;> simp

section
variable {s : State} (hs : Structured s)
include hs

/-- A window that a cut takes off its chain. -/
theorem Structured.cutWindow_mem {c : ChannelId} {x : Handle} {w : Window} (hm : x ∈ (s.channel c).chain)
    (hw : s.window x = some w) :
    (s.cutChainOf c).window x = some
      (if w.state = .active ∧ s.inFlight x = true then { w with state := .draining }
       else { w with state := .parked, channel := none }) := by
  rw [cutChainOf_window, if_pos hm, hw, Option.map_some, cutWindow_onChain (hs.member hm hw).1]

theorem Structured.cutChainOf {c : ChannelId} (ho : (s.channel c).owner ≠ none) : Structured (s.cutChainOf c) := by
  have hself : (s.cutChainOf c).channel c = (s.channel c).cut := by rw [cutChainOf_channel, if_pos rfl]
  have hother : ∀ x, x ≠ c → (s.cutChainOf c).channel x = s.channel x := fun x hx => by rw [cutChainOf_channel, if_neg hx]
  obtain ⟨hchain, howner, hstall, hdis, hmov, hst⟩ := cut_fields (s.channel c)
  have hf := frame_cutChainOf s c
  have hout : ∀ x, x ∉ (s.channel c).chain → (s.cutChainOf c).window x = s.window x := fun x hx => by
    rw [cutChainOf_window, if_neg hx]
  have hflight : ∀ x, (s.cutChainOf c).inFlight x = s.inFlight x := fun x => by
    rw [State.inFlight, hf .memory (by simp)]
    rfl
  have hnil : ((s.cutChainOf c).channel c).chain = [] := by rw [hself, hchain]
  have hx : ChainChange s (s.cutChainOf c) c := by
    constructor
    case sub => rw [hnil]; exact List.nil_sublist _
    case owner => rw [hself, howner]
    case outside =>
      intro x hm _ w v hw hv
      rw [hs.cutWindow_mem hm hw] at hv
      cases hv
      split
      · next h => exact ⟨rfl, rfl, fun _ => (hflight x).trans h.2⟩
      · exact ⟨rfl, rfl, fun h => nomatch h⟩
    all_goals simp [hnil]
  refine hs.chainChange hx (hf.mono (by simp)) hother ho (by rw [hself]; exact hmov) (by rw [hself, hdis]) hout ?_
    fun u hu huc => ?_
  · obtain ⟨-, hdmov, -⟩ := (hs.channel c).sound
    rw [hself]
    refine ⟨fun h => absurd (howner.symm.trans h) ho, fun h => hmov.mpr (hdmov (hdis ▸ h)), ?_, fun _ => headIs_nil hnil _,
      fun _ => hchain, ?_⟩
    · rcases hst with h | h | h <;> simp [h, hstall]
    · rcases hst with h | h | h <;> simp [h]
  · subst huc
    obtain ⟨hholder, hcycle, w, hw, hwc, hown, hrec, hws⟩ := hs.unit u hu
    have hin : s.inFlight u.window = true := (inFlight_unit hu).mpr rfl
    have hdrain : (s.cutChainOf u.channel).window u.window = some { w with state := .draining } := by
      obtain ⟨ha, hh⟩ | ⟨hd, -⟩ := hws
      · rw [hs.cutWindow_mem (List.mem_of_head? hh) hw, if_pos ⟨ha, hin⟩]
      · rw [hout _ (hs.not_mem hw (by simp [hd, WindowState.onChain]) _), hw, ← hd]
    exact ⟨hholder, hcycle, _, hdrain, hwc, (by rw [hself, howner]; exact hown), hrec, .inr ⟨rfl, headIs_nil hnil _⟩⟩

end

/-! ## The commands on a chain (R42, R45 to R47) -/

/-- The chain of `c` stands, its LINKED head made ACTIVE. -/
theorem ChainChange.of_activated {s t : State} {c : ChannelId} (hc : (t.channel c).chain = (s.channel c).chain)
    (ho : (t.channel c).owner = (s.channel c).owner)
    (hw : ∀ x ∈ (s.channel c).chain,
      t.window x = if (s.channel c).chain.head? = some x then (s.window x).map asHead else s.window x) :
    ChainChange s t c where
  sub := by rw [hc]
  head := fun x _ h => by rw [hc]; exact h
  owner := ho
  inside := fun x hm w hx => by
    rw [hw x (hc ▸ hm), hc]
    split
    · next h =>
      exact ⟨asHead w, by rw [hx]; rfl, (asHead_fields w).1, (asHead_fields w).2, (asHead_state w).imp_right fun e => ⟨h, e⟩⟩
    · exact ⟨w, hx, rfl, rfl, .inl rfl⟩
  outside := fun x h hn => absurd (hc ▸ h) hn

/-- A STALLED channel becomes another with its head made ACTIVE. -/
theorem Structured.unstall {s t : State} (hs : Structured s) {c : ChannelId} (hst : (s.channel c).state = .stalled)
    (ho : (s.channel c).owner ≠ none) (hf : Frame s t [.windows, .channels])
    (hother : ∀ x, x ≠ c → t.channel x = s.channel x) (hchain : (t.channel c).chain = (s.channel c).chain)
    (howner : (t.channel c).owner = (s.channel c).owner)
    (hdis : (t.channel c).disablePending = (s.channel c).disablePending) (hmov : (t.channel c).state ≠ .moving)
    (hw : ∀ x, t.window x = if (s.channel c).chain.head? = some x then (s.window x).map asHead else s.window x)
    (hsound : HeadIs t c .active → RecordSound (t.channel c) (HeadIs t c)) : Structured t := by
  have hx := ChainChange.of_activated hchain howner fun x _ => hw x
  refine hs.chainChange hx (hf.mono (by simp)) hother ho (by simp [hst, hmov]) hdis (fun x hn => ?_)
    (hsound fun x hxh => ?_) fun u hu huc => ?_
  · rw [hw, if_neg fun h => hn (List.mem_of_head? h)]
  · obtain ⟨-, -, -, -, -, -, -, hlinked⟩ := (hs.channel c).sound
    rw [hchain] at hxh
    obtain ⟨w, hws, hwl⟩ := hlinked hst x hxh
    rw [Option.mem_def] at hxh hws
    exact ⟨asHead w, by rw [Option.mem_def, hw, if_pos hxh, hws]; rfl, asHead_of_linked hwl⟩
  · have := hs.moving_of_unit hu
    rw [huc, hst] at this
    cases this

section
variable {s : State} {d : DomainId} (hs : Taking s d)
include hs

theorem cutChain_upholds (t : BitVec 8) : Upholds (cutChain d t s) s d := by
  refine upholds_onChannel hs fun c ho => ?_
  have hst := hs.upheld.structured
  have hf := frame_cutChainOf s c
  have hup : Upheld (s.cutChainOf c) := by
    refine ⟨hst.cutChainOf (by simp [ho]), hs.upheld.granted.of_channel (c := c) hf (by simp)
      (fun x hx => by rw [cutChainOf_channel, if_neg hx]) fun hp => ?_⟩
    rw [cutChainOf_channel, if_pos rfl] at hp
    obtain ⟨-, -, -, -, -, hcut⟩ := cut_fields (s.channel c)
    rcases hcut with h | h | h <;> rw [h] at hp <;> cases hp
  dsimp only
  split
  · next h hh =>
    obtain ⟨hhead, w, hw, ha, hin⟩ := headInFlight_eq_some.mp hh
    have hm := List.mem_of_head? hhead
    refine upholds_waits_of_frame hs hup hf (by simp) (by simp) (by simp) ?_
    have hflight : (s.cutChainOf c).inFlight h = true := by
      rw [State.inFlight, hf .memory (by simp)]
      exact hin
    obtain ⟨-, -, howner, -⟩ := hst.member hm hw
    have hown : w.owner = d := Option.some.inj (howner.symm.trans ho)
    simp [State.waitHolds, hflight, hst.cutWindow_mem hm hw, ha, hin, hown]
  · exact upholds_done_of_frame hs hup hf (by simp) (by simp) _

theorem resumeChannel_upholds (t : BitVec 8) : Upholds (resumeChannel d t s) s d := by
  refine upholds_onChannel hs fun c ho => ?_
  split
  · exact upholds_refused hs _
  · next hstalled =>
    rw [not_not] at hstalled
    have hst := hs.upheld.structured
    have hf : Frame s (((s.updChannel c fun ch => { ch with stall := none }).activateHead c).updChannel c Channel.settled)
        [.windows, .channels] :=
      (((Frame.updChannel _ c _).mono (by simp)).trans ((Frame.activateHead _ c).mono (by simp))).trans
        ((Frame.updChannel _ c _).mono (by simp))
    have hself : (((s.updChannel c fun ch => { ch with stall := none }).activateHead c).updChannel c
        Channel.settled).channel c = ({ s.channel c with stall := none } : Channel).settled := by simp
    refine upholds_done_of_frame (l := [.windows, .channels, .arbiter, .memory]) hs (.of_grantDecision ?_)
      ((hf.mono (by simp)).trans ((Frame.grantDecision _).mono (by simp))) (by simp) (by simp) _
    refine hst.unstall hstalled (by simp [ho]) hf (fun x hx => by simp [hx]) (by rw [hself, settled_chain])
      (by rw [hself, settled_owner]) (by rw [hself, settled_disablePending]) (by rw [hself]; exact settled_not_moving _)
      (fun x => ?_) fun ha => ?_
    · rw [State.updChannel_window, window_activateHead]
      simp
    · rw [hself]
      exact .settled (by simp [ho]) ((hst.channel c).sound.not_disabled (by simp [hstalled])) rfl fun _ => ha

omit hs in
/-- A MOVING channel has taken a pending disable, and the port of its owner waits for it (R42). -/
structure DisableStarted (s t : State) (d : DomainId) (c : ChannelId) : Prop where
  self : t.channel c = { s.channel c with soft := false, disablePending := true }
  others : ∀ x, x ≠ c → t.channel x = s.channel x
  waits : (t.port d).waiting = some (.disable c)
  ports : ∀ e, e ≠ d → t.port e = s.port e
  window : ∀ x, t.window x = s.window x
  domain : ∀ x, t.domain x = s.domain x
  arbiter : t.arbiter = s.arbiter
  memory : t.memory = s.memory

section
variable {t : State} {c : ChannelId} (hx : DisableStarted s t d c)
include hx

omit hs in
theorem DisableStarted.fields (x : ChannelId) : (t.channel x).chain = (s.channel x).chain ∧
    (t.channel x).owner = (s.channel x).owner ∧ (t.channel x).state = (s.channel x).state := by
  by_cases hxc : x = c
  · subst hxc
    rw [hx.self]
    exact ⟨rfl, rfl, rfl⟩
  · rw [hx.others x hxc]
    exact ⟨rfl, rfl, rfl⟩

omit hs in
theorem DisableStarted.head {x : ChannelId} {st : WindowState} (h : HeadIs s x st) : HeadIs t x st := fun y hy => by
  obtain ⟨hchain, -⟩ := hx.fields x
  rw [hchain] at hy
  rw [hx.window]
  exact h y hy

theorem DisableStarted.outside : Outside (· = c) s t where
  channel := hx.others
  domain := fun _ _ e _ => by rw [KeepsDomain, hx.domain]; exact ⟨id, id⟩
  holder := fun _ _ => by rw [hx.arbiter]
  disable := fun x _ e he => by
    rw [hx.ports e fun h => by rw [h, hs.idle] at he; cases he]
    exact he
  window := fun x w _ hw _ _ _ => ⟨w, (hx.window x).trans hw, .refl w⟩

theorem DisableStarted.channelFits (ho : (s.channel c).owner = some d) (hmv : (s.channel c).state = .moving) :
    ChannelFits t c := by
  have fits := hs.upheld.structured.channel c
  constructor <;> rw [hx.self]
  case nodup => exact fits.nodup
  case members => exact fun y hy => by rw [hx.window]; exact fits.members y hy
  case sound =>
    obtain ⟨-, -, hstall, -⟩ := fits.sound
    refine ⟨fun h => ?_, fun _ => hmv, hstall, ?_⟩
    · simp [ho] at h
    · simp [hmv]
  case domain =>
    intro e he
    dsimp only at he
    rw [ho] at he
    cases he
    rw [hx.domain]
    exact ⟨by simp [hs.opened], fun h => by simp [hs.not_clearing] at h⟩
  case disable => exact fun _ => ⟨d, ho, hx.waits⟩
  case unowned => exact fun h => by simp [ho] at h
  case holder => rw [hx.arbiter]; exact fits.holder

theorem DisableStarted.portFits (ho : (s.channel c).owner = some d) (e : DomainId) : PortFits t e := by
  have hst := hs.upheld.structured
  by_cases he : e = d
  · subst he
    refine ⟨fun _ => by rw [hx.domain]; exact hs.opened, fun y hy => ?_⟩
    rw [hx.waits] at hy
    cases hy
    simp [State.waitHolds, hx.self, ho]
  · refine ⟨fun h => by rw [hx.domain]; exact (hst.port e).opened (by rwa [hx.ports e he] at h), fun y hy => ?_⟩
    rw [hx.ports e he] at hy
    have hh := (hst.port e).holds y hy
    have haw : t.noneAwaited = s.noneAwaited := noneAwaited_congr fun x => congrArg Domain.awaited (hx.domain x)
    cases y with
    | revoke h => simpa only [State.waitHolds, State.inFlight, hx.memory, hx.window] using hh
    | cut h n => simpa only [State.waitHolds, State.inFlight, hx.memory, hx.window] using hh
    | disable x =>
      have hxc : x ≠ c := fun hxc => by
        simp only [State.waitHolds, Bool.and_eq_true, beq_iff_eq, hxc, ho, Option.some.injEq] at hh
        exact he hh.2.symm
      rwa [State.waitHolds, hx.others x hxc]
    | close n cs => rwa [State.waitHolds, haw]
    | masterClear n cs => rwa [State.waitHolds, haw]

theorem DisableStarted.domainFits (e : DomainId) : DomainFits t e := by
  have fits := hs.upheld.structured.domain e
  have hunits : t.unitsOf e = s.unitsOf e := unitsOf_congr fun x => by
    obtain ⟨-, howner, hstate⟩ := hx.fields x
    rw [howner, hstate]
  refine ⟨?_, ?_, ?_, fun hc => ?_⟩
  · rw [hx.domain]
    exact fits.closing
  · rw [hx.domain, hunits]
    exact fits.awaited
  · rw [hx.domain]
    exact fits.slots
  · rw [hx.domain] at hc
    have hin := fits.command hc
    rw [hx.ports 0 fun h => by rw [h, Port.inTeardown, hs.idle] at hin; cases hin]
    exact hin

theorem DisableStarted.structured (ho : (s.channel c).owner = some d) (hmv : (s.channel c).state = .moving) :
    Structured t := by
  have hst := hs.upheld.structured
  refine hst.confined (hx.outside hs) (fun x hxc => hxc ▸ hx.channelFits hs ho hmv) (fun h v hv => .inr ?_)
    (by rw [hx.domain]; exact hst.supervisor) (by rw [hx.arbiter, hx.memory]; exact hst.held) (fun u hu => ?_)
    (hx.domainFits hs) (hx.portFits hs ho)
  · rw [hx.window] at hv
    have fits := hst.window h v hv
    refine ⟨fun hon => ?_, fun h => ?_, by rw [hx.domain]; exact fits.domain⟩
    · obtain ⟨y, hy, hm⟩ := fits.chain hon
      exact ⟨y, hy, by rw [(hx.fields y).1]; exact hm⟩
    · simpa only [State.inFlight, hx.memory] using fits.draining h
  · rw [hx.memory] at hu
    obtain ⟨hchain, howner, -⟩ := hx.fields u.channel
    exact (hst.unit u hu).of_alike (by rw [hx.arbiter]) (by rw [hx.memory])
      (fun w hw => ⟨w, (hx.window _).trans hw, .refl w⟩) howner (fun _ _ _ h => by rw [hchain]; exact h) hx.head

end

omit hs in
theorem disableStarted (c : ChannelId) :
    DisableStarted s ((s.updChannel c fun ch => { ch with soft := false, disablePending := true }).updPort d fun p =>
      { p with waiting := some (.disable c) }) d c where
  self := by simp
  others := fun x hx => by simp [hx]
  waits := by simp
  ports := fun e he => by simp [he]
  window := fun x => by simp
  domain := fun x => by simp
  arbiter := rfl
  memory := rfl

theorem disableChannel_upholds (t : BitVec 8) : Upholds (disableChannel d t s) s d := by
  refine upholds_onChannel hs fun c ho => ?_
  have hst := hs.upheld.structured
  have fits := (hst.channel c).sound
  -- at once: the channel becomes OFF with its ACTIVE head
  have off : (s.channel c).state ≠ .moving → (s.channel c).state ≠ .stalled → (s.channel c).state ≠ .off →
      Upholds (.done (s.updChannel c fun ch => { ch with state := .off, soft := false }) noResults) s d := fun hm hl hn => by
    refine upholds_done_of_frame hs (.updOff hs ?_ (by simp)) (Frame.updChannel s c _) (by simp) (by simp) _
    refine hst.updChannel c ⟨rfl, rfl, rfl⟩ (by simp [hm]) (fun head hnil h => ?_) fun h => by simp [ho] at h
    have hactive : head .active := by
      obtain ⟨-, -, -, -, hidle, harmed, hpending, -⟩ := h
      cases hcs : (s.channel c).state
      case off => exact absurd hcs hn
      case idle => exact hnil _ (hidle hcs)
      case armed => exact (harmed hcs).2.1
      case pending => exact (hpending hcs).2.1
      case moving => exact absurd hcs hm
      case stalled => exact absurd hcs hl
    simp [RecordSound, ho, fits.not_disabled hm, fits.not_stalled hl, hactive]
  split
  · exact upholds_refused hs _
  · next hmv =>
    refine ⟨⟨(disableStarted c).structured hs ho hmv, ?_⟩, rfl⟩
    refine hs.upheld.granted.of_pending rfl id fun x hx => ?_
    by_cases hc : x = c
    · subst hc
      simpa [Completion.apply] using hx
    · simpa [Completion.apply, hc] using hx
  · next hstalled =>
    have hf : Frame s ((s.updChannel c fun ch => { ch with state := .off, soft := false, stall := none }).activateHead c)
        [.windows, .channels] :=
      ((Frame.updChannel _ c _).mono (by simp)).trans ((Frame.activateHead _ c).mono (by simp))
    refine upholds_done_of_frame hs ⟨?_, ?_⟩ hf (by simp) (by simp) _
    · refine hst.unstall hstalled (by simp [ho]) hf (fun x hx => by simp [hx]) (by simp) (by simp) (by simp) (by simp)
        (fun x => ?_) fun ha => ?_
      · rw [window_activateHead]
        simp
      · simp [RecordSound, ho, fits.not_disabled (by simp [hstalled])]
        exact ha
    · exact hs.upheld.granted.of_channel (c := c) hf (by simp) (fun x hx => by simp [hx]) (by simp)
  · next h => exact off (by simp [h]) (by simp [h]) (by simp [h])
  · next h => exact off (by simp [h]) (by simp [h]) (by simp [h])
  · next h => exact off (by simp [h]) (by simp [h]) (by simp [h])

end

end Sys2Proof.Machine

namespace Sys2Proof.Machine

/-! ## The window table's own commands -/

/-- A command on one handle that leaves its window as the structure reads it, or makes it one of the domain off every
chain. -/
theorem Taking.windowWritten {s t : State} {d : DomainId} (hs : Taking s d) {h : Handle}
    (hf : Frame s t [.windows, .causes, .domains, .notices]) (hd : ∀ x, (t.domain x).Alike (s.domain x))
    (hother : ∀ x, x ≠ h → t.window x = s.window x)
    (hnew : ∀ v, t.window h = some v → (∃ w, s.window h = some w ∧ v.Alike w) ∨ (v.state.engaged = false ∧ v.owner = d))
    (hold : ∀ w, s.window h = some w → w.state.engaged = true → ∃ v, t.window h = some v ∧ v.Alike w) : Upheld t where
  structured := by
    refine hs.upheld.structured.windows hd hf (fun x w hw he => ?_) fun x v hv => ?_
    · by_cases hx : x = h
      · subst hx
        exact hold w hw he
      · exact ⟨w, (hother x hx).trans hw, .refl w⟩
    · by_cases hx : x = h
      · subst hx
        refine (hnew v hv).imp_right fun ⟨he, ho⟩ => ⟨he, ?_, ?_⟩
        · rw [ho]
          simp [hs.opened]
        · rw [ho]
          exact hs.not_clearing
      · exact .inl ⟨v, (hother x hx).symm.trans hv, .refl v⟩
  granted := hs.upheld.granted.of_pending (congrArg Arbiter.holder (hf .arbiter (by simp)))
    (fun hr => (congrArg Arbiter.run (hf .arbiter (by simp))).symm.trans hr) fun c hc => by
      rwa [hf.same_channel (by simp)] at hc

/-- Where no teardown reads the slots, counts and homes may change. -/
theorem domain_alike {x y : Domain} (hst : y.state = x.state) (hc : y.clearing = x.clearing) (ha : y.awaited = x.awaited)
    (hx : x.clearing = false) : y.Alike x := ⟨hst, hc, ha, fun h => absurd (hx.symm.trans h) (by simp)⟩

section
variable {s : State} {d : DomainId} (hs : Taking s d)
include hs

/-- A domain record of the command's own domain, its counts changed. -/
theorem Taking.domain_alike {t : State} {f : Domain → Domain} (hf : ∀ x, (f x).state = x.state ∧ (f x).clearing = x.clearing ∧
    (f x).awaited = x.awaited) (ht : ∀ e, t.domain e = if e = d then f (s.domain d) else s.domain e) (e : DomainId) :
    (t.domain e).Alike (s.domain e) := by
  rw [ht]
  split
  · next he =>
    subst he
    obtain ⟨h1, h2, h3⟩ := hf (s.domain e)
    exact Machine.domain_alike h1 h2 h3 hs.not_clearing
  · exact .refl _

theorem openWindow_upholds (t : BitVec 8) : Upholds (openWindow d t s) s d := by
  unfold openWindow
  split
  · exact upholds_refused hs _
  · next x _ =>
    split
    · exact upholds_refused hs _
    · split
      · exact upholds_refused hs _
      · split
        · exact upholds_refused hs _
        · next i _ =>
          split
          · exact upholds_refused hs _
          · split
            · exact upholds_refused hs _
            · next h hfree =>
              have hnone : s.window h = none := (freeHandle_eq_some.mp hfree).1
              have hf : Frame s ((s.setWindow h (some (openedWindow d i x))).updDomain d fun y => y.oneMore i)
                  [.windows, .causes, .domains, .notices] :=
                ((Frame.setWindow _ h _).mono (by simp)).trans ((Frame.updDomain _ d _).mono (by simp))
              refine upholds_done_of_frame hs (hs.windowWritten (h := h) hf
                (hs.domain_alike (f := fun y => y.oneMore i) (fun _ => ⟨rfl, rfl, rfl⟩) fun e => by
                  by_cases he : e = d <;> simp [he])
                (fun y hy => by simp [hy]) (fun v hv => .inr ?_) fun w hw => ?_) hf (by simp) (by simp) _
              · simp only [State.updDomain_window, State.setWindow_window, if_true, Option.some.injEq] at hv
                subst hv
                exact ⟨rfl, rfl⟩
              · rw [hnone] at hw
                cases hw

theorem releaseWindow_upholds (t : BitVec 8) : Upholds (releaseWindow d t s) s d := by
  cases hl : s.liveWindow t with
  | none =>
    rw [releaseWindow_none hl]
    exact upholds_refused hs _
  | some p =>
    obtain ⟨h, w⟩ := p
    obtain ⟨-, hw⟩ := liveWindow_eq_some.mp hl
    rw [releaseWindow_live hl]
    split
    · exact upholds_refused hs _
    · split
      · exact upholds_refused hs _
      · next he =>
        split
        · exact upholds_refused hs _
        · have hf : Frame s ((s.freeWindow h w).updDomain d fun y => y.oneFewer w.home)
              [.windows, .causes, .domains, .notices] :=
            ((frame_freeWindow s h w).mono (by simp)).trans ((Frame.updDomain _ d _).mono (by simp))
          refine upholds_done_of_frame hs (hs.windowWritten (h := h) hf
            (hs.domain_alike (f := fun y => y.oneFewer w.home) (fun _ => ⟨rfl, rfl, rfl⟩) fun e => by
              by_cases he : e = d <;> simp [he, State.freeWindow])
            (fun y hy => by simp [hy]) (fun v hv => ?_) fun v hv hve => ?_) hf (by simp) (by simp) _
          · simp at hv
          · rw [hw] at hv
            cases hv
            exact absurd hve he

/-- A live window of the domain written anew. -/
theorem Taking.setWindow {h : Handle} {w v : Window} (hw : s.window h = some w) (ho : w.owner = d)
    (hv : v.Alike w ∨ (w.state.engaged = false ∧ v.state.engaged = false ∧ v.owner = w.owner)) :
    Upheld (s.setWindow h (some v)) := by
  refine hs.windowWritten (h := h) ((Frame.setWindow s h _).mono (by simp)) (fun _ => .refl _) (fun x hx => by simp [hx])
    (fun y hy => ?_) fun y hy he => ?_
  · simp only [State.setWindow_window, if_true, Option.some.injEq] at hy
    subst hy
    exact hv.imp (fun ha => ⟨w, hw, ha⟩) fun ⟨_, h1, h2⟩ => ⟨h1, h2.trans ho⟩
  · rw [hw] at hy
    cases hy
    refine ⟨v, by simp, hv.elim id fun hoff => ?_⟩
    rw [hoff.1] at he
    cases he

theorem rewindWindow_upholds (t : BitVec 8) : Upholds (rewindWindow d t s) s d := by
  cases hl : s.liveWindow t with
  | none =>
    rw [rewindWindow_none hl]
    exact upholds_refused hs _
  | some p =>
    obtain ⟨h, w⟩ := p
    obtain ⟨-, hw⟩ := liveWindow_eq_some.mp hl
    rw [rewindWindow_live hl]
    split
    · exact upholds_refused hs _
    · next ho =>
      split
      · exact upholds_refused hs _
      · next he =>
        refine upholds_done_of_frame hs (hs.setWindow (v := w.rewound) hw (not_not.mp ho) (.inr ⟨?_, rfl, rfl⟩))
          (Frame.setWindow s h _)
          (by simp) (by simp) _
        simpa using he

theorem touchWindow_upholds (t : BitVec 8) : Upholds (touchWindow d t s) s d := by
  cases hl : s.liveWindow t with
  | none =>
    rw [touchWindow_none hl]
    exact upholds_refused hs _
  | some p =>
    obtain ⟨h, w⟩ := p
    obtain ⟨-, hw⟩ := liveWindow_eq_some.mp hl
    rw [touchWindow_live hl]
    split
    · exact upholds_refused hs _
    · next ho =>
      have halike : w.renewed.Alike w := ⟨rfl, rfl, rfl, rfl, rfl, rfl, rfl⟩
      exact upholds_done_of_frame hs (hs.setWindow hw (not_not.mp ho) (.inl halike)) (Frame.setWindow s h _) (by simp)
        (by simp) _

theorem amendWindow_upholds (t : BitVec 8) : Upholds (amendWindow d t s) s d := by
  unfold amendWindow
  split
  · exact upholds_refused hs _
  · next h w hl =>
    obtain ⟨-, hw⟩ := liveWindow_eq_some.mp hl
    split
    · exact upholds_refused hs _
    · split
      · exact upholds_refused hs _
      · next x _ =>
        split
        · exact upholds_refused hs _
        · have hmove := frame_moveNotice s h w x.level
          have hf : Frame s ((s.moveNotice h w x.level).setWindow h (some (w.amended x)))
              [.windows, .causes, .domains, .notices] :=
            (hmove.mono (by simp)).trans ((Frame.setWindow _ h _).mono (by simp))
          have halike : (w.amended x).Alike w := ⟨rfl, rfl, rfl, rfl, rfl, rfl, rfl⟩
          refine upholds_done_of_frame hs (hs.windowWritten (h := h) hf (fun e => ?_) (fun y hy => ?_) (fun v hv => .inl ?_)
            fun v hv _ => ?_) hf (by simp) (by simp) _
          · rw [State.setWindow_domain, hmove.same_domain (by simp)]
            exact .refl _
          · rw [State.setWindow_window, if_neg hy, hmove.same_window (by simp)]
          · simp only [State.setWindow_window, if_true, Option.some.injEq] at hv
            subst hv
            exact ⟨w, hw, halike⟩
          · rw [hw] at hv
            cases hv
            exact ⟨_, by simp, halike⟩

/-! ## BIND WINDOW (R39) -/

omit hs in
/-- The PARKED window `w` of `h` has been bound to the channel `c` of its owner (R39). -/
structure BoundTo (s t : State) (h : Handle) (w : Window) (c : ChannelId) : Prop where
  parked : s.window h = some w ∧ w.state = .parked
  owner : (s.channel c).owner = some w.owner
  self : t.channel c = (s.channel c).withBound h
  others : ∀ x, x ≠ c → t.channel x = s.channel x
  new : t.window h = some (w.bound c (s.channel c).bindsActive)
  window : ∀ x, x ≠ h → t.window x = s.window x
  frame : Frame s t [.windows, .channels]

omit hs in
theorem bound_fields (w : Window) (c : ChannelId) (b : Bool) :
    (w.bound c b).channel = some c ∧ (w.bound c b).owner = w.owner ∧
      (w.bound c b).state = if b then .active else .linked := by
  unfold Window.bound
  split <;> exact ⟨rfl, rfl, rfl⟩

section
variable {t : State} {h : Handle} {w : Window} {c : ChannelId} (hx : BoundTo s t h w c)
include hx

omit hs in
theorem BoundTo.fields :
    (t.channel c).chain = (s.channel c).chain ++ [h] ∧ (t.channel c).owner = some w.owner ∧
      (t.channel c).disablePending = (s.channel c).disablePending ∧ (t.channel c).stall = (s.channel c).stall ∧
      (t.channel c).effective = (s.channel c).effective ∧
      (t.channel c).state = if (s.channel c).state = .idle then
        (if (s.channel c).effective then .pending else .armed) else (s.channel c).state := by
  rw [hx.self, withBound_eq]
  exact ⟨rfl, hx.owner, rfl, rfl, rfl, rfl⟩

omit hs in
theorem BoundTo.moving : (t.channel c).state = .moving ↔ (s.channel c).state = .moving := by
  obtain ⟨-, -, -, -, -, hstate⟩ := hx.fields
  rw [hstate]
  split
  · next hi => rw [hi]; split <;> simp
  · rfl

theorem BoundTo.not_mem (x : ChannelId) : h ∉ (s.channel x).chain :=
  hs.upheld.structured.not_mem hx.parked.1 (by simp [hx.parked.2, WindowState.onChain]) x

omit hs in
theorem BoundTo.head? {x : Handle} (hh : (s.channel c).chain.head? = some x) : (t.channel c).chain.head? = some x := by
  rw [hx.fields.1, List.head?_append, hh]
  rfl

/-- The head is the old head, or the window itself. -/
theorem BoundTo.headIs {st : WindowState} (hh : HeadIs s c st)
    (hnil : (s.channel c).chain = [] → (if (s.channel c).bindsActive then WindowState.active else .linked) = st) :
    HeadIs t c st := by
  intro x hxh
  rw [hx.fields.1] at hxh
  cases hc : (s.channel c).chain with
  | nil =>
    rw [hc] at hxh
    cases hxh
    obtain ⟨-, -, hst⟩ := bound_fields w c (s.channel c).bindsActive
    exact ⟨_, hx.new, hst.trans (hnil hc)⟩
  | cons y ys =>
    rw [hc] at hxh
    have hxy : y = x := Option.some.inj hxh
    subst hxy
    have hm : y ∈ (s.channel c).chain := by simp [hc]
    rw [hx.window y fun e => hx.not_mem hs c (e ▸ hm)]
    exact hh y (by simp [hc])

omit hs in
theorem BoundTo.local : Local (· = c) s t := .of_frame (hx.frame.mono (by simp)) hx.others
  (fun x hxc _ => by
    obtain ⟨-, howner, hdis, -⟩ := hx.fields
    rw [hxc, howner, hdis, hx.owner]
    exact ⟨rfl, id⟩)
  fun x v hv he _ => by
    refine ⟨v, (hx.window x fun e => ?_).trans hv, .refl v⟩
    rw [e, hx.parked.1] at hv
    cases hv
    simp [hx.parked.2, WindowState.engaged] at he

theorem BoundTo.sound : RecordSound (t.channel c) (HeadIs t c) := by
  obtain ⟨hchain, howner, hdis, hstall, heff, hstate⟩ := hx.fields
  obtain ⟨-, h2, h3, h4, h5, h6, h7, h8⟩ := (hs.upheld.structured.channel c).sound
  have hne : (t.channel c).chain ≠ [] := by simp [hchain]
  have hactive : (s.channel c).state ≠ .stalled → (s.channel c).state ≠ .moving → HeadIs s c .active → HeadIs t c .active :=
    fun h1 h2 hh => hx.headIs hs hh fun hnil => by rw [if_pos (bindsActive_iff.mpr ⟨hnil, h1, h2⟩)]
  rw [RecordSound, howner, hdis, hx.moving, hstall, heff]
  refine ⟨fun h => (Option.some_ne_none _ h).elim, h2, ?_, ?_⟩
  · rw [h3, hstate]
    split
    · next hi => rw [hi]; split <;> simp
    · rfl
  · rw [hstate]
    cases hcs : (s.channel c).state
    case idle =>
      have hh := hactive (by simp [hcs]) (by simp [hcs]) (headIs_nil (h5 hcs) _)
      cases (s.channel c).effective <;> simp [hne] <;> exact hh
    case off => simpa using hactive (by simp [hcs]) (by simp [hcs]) (h4 hcs)
    case armed => simpa [hne, (h6 hcs).2.2] using hactive (by simp [hcs]) (by simp [hcs]) (h6 hcs).2.1
    case pending => simpa [hne, (h7 hcs).2.2] using hactive (by simp [hcs]) (by simp [hcs]) (h7 hcs).2.1
    case moving => simp
    case stalled => simpa using hx.headIs hs (h8 hcs) fun _ => by simp [Channel.bindsActive, hcs]

theorem BoundTo.members :
    ∀ y ∈ (t.channel c).chain, ∃ v, t.window y = some v ∧ StandsOn c (t.channel c) y v := by
  obtain ⟨hchain, howner, -⟩ := hx.fields
  intro y hy
  rw [hchain, List.mem_append, List.mem_singleton] at hy
  obtain hy | rfl := hy
  · obtain ⟨v, hv, hon, hvc, hvo, hvh⟩ := (hs.upheld.structured.channel c).members y hy
    exact ⟨v, (hx.window y fun e => hx.not_mem hs c (e ▸ hy)).trans hv, hon, hvc, by rw [howner, ← hx.owner]; exact hvo,
      fun ha => hx.head? (hvh ha)⟩
  · obtain ⟨hbc, hbo, hbs⟩ := bound_fields w c (s.channel c).bindsActive
    refine ⟨_, hx.new, ?_, hbc, by rw [howner, hbo], fun ha => ?_⟩
    · rw [hbs]
      split <;> rfl
    · rw [hbs] at ha
      have hb : (s.channel c).bindsActive = true := by
        by_contra hb
        simp [hb] at ha
      rw [hchain, (bindsActive_iff.mp hb).1]
      rfl

variable (ho : w.owner = d)
include ho

theorem BoundTo.channelFits : ChannelFits t c := by
  obtain ⟨hchain, howner, hdis, -⟩ := hx.fields
  have fits := hs.upheld.structured.channel c
  have hl := hx.local
  refine ⟨?_, hx.members hs, hx.sound hs, fun e he => ?_, fun hd => ?_, fun hn => by simp [howner] at hn, ?_⟩
  · rw [hchain]
    exact fits.nodup.append (List.nodup_singleton h) (by simpa using hx.not_mem hs c)
  · rw [howner, ho] at he
    cases he
    rw [(hl.domain d).state, (hl.domain d).clearing]
    exact ⟨by simp [hs.opened], fun hc => by simp [hs.not_clearing] at hc⟩
  · rw [hdis] at hd
    obtain ⟨e, he, hp⟩ := fits.disable hd
    exact ⟨e, by rw [howner, ← hx.owner]; exact he, by rw [hl.waiting]; exact hp⟩
  · rw [hx.moving, hl.holder]
    exact fits.holder

theorem BoundTo.windowFits {x : Handle} {v : Window} (hv : t.window x = some v) : WindowFits t x v := by
  obtain ⟨hchain, -⟩ := hx.fields
  have hl := hx.local
  by_cases hxh : x = h
  · subst hxh
    rw [hx.new] at hv
    cases hv
    obtain ⟨hbc, hbo, hbs⟩ := bound_fields w c (s.channel c).bindsActive
    refine ⟨fun _ => ⟨c, hbc, by simp [hchain]⟩, fun hdr => ?_, ?_⟩
    · rw [hbs] at hdr
      split at hdr <;> cases hdr
    · rw [hbo, ho, (hl.domain d).state, (hl.domain d).clearing]
      exact ⟨by simp [hs.opened], fun hc => by simp [hs.not_clearing] at hc⟩
  · rw [hx.window x hxh] at hv
    have fits := hs.upheld.structured.window x v hv
    refine ⟨fun hon => ?_, fun hdr => by rw [hl.inFlight]; exact fits.draining hdr, ?_⟩
    · obtain ⟨y, hy, hm⟩ := fits.chain hon
      refine ⟨y, hy, ?_⟩
      by_cases hyc : y = c
      · subst hyc
        rw [hchain]
        exact List.mem_append_left _ hm
      · rwa [hx.others y hyc]
    · rw [(hl.domain _).state, (hl.domain _).clearing]
      exact fits.domain

omit ho in
theorem BoundTo.unitFits {u : UnitRecord} (hu : s.memory.record = some u) (huc : u.channel = c) : UnitFits t u := by
  subst huc
  have hstr := hs.upheld.structured
  have hmoving := hstr.moving_of_unit hu
  have hl := hx.local
  refine (hstr.unit u hu).of_alike hl.holder (by rw [hl.memory])
    (fun v hv => ⟨v, (hx.window _ fun e => ?_).trans hv, .refl v⟩) (hx.fields.2.1.trans hx.owner.symm)
    (fun _ _ _ => hx.head?) fun hh => hx.headIs hs hh fun _ => by simp [Channel.bindsActive, hmoving]
  obtain ⟨y, hy, -, -, -, hys⟩ := (hstr.unit u hu).window
  rw [e, hx.parked.1] at hy
  cases hy
  simp [hx.parked.2] at hys

theorem BoundTo.structured : Structured t :=
  hs.upheld.structured.local hx.local (fun _ hc => hc ▸ hx.channelFits hs ho) (fun _ _ hv => .inr (hx.windowFits hs ho hv))
    fun _ hu huc => hx.unitFits hs hu huc

end

omit hs in
theorem boundTo {h : Handle} {w : Window} {c : ChannelId} (hw : s.window h = some w) (hst : w.state = .parked)
    (ho : (s.channel c).owner = some w.owner) :
    BoundTo s ((s.setWindow h (some (w.bound c (s.channel c).bindsActive))).updChannel c fun ch => ch.withBound h) h w c where
  parked := ⟨hw, hst⟩
  owner := ho
  self := by simp
  others := fun x hx => by simp [hx]
  new := by simp
  window := fun x hx => by simp [hx]
  frame := ((Frame.setWindow s h _).mono (by simp)).trans ((Frame.updChannel _ c _).mono (by simp))

theorem bindWindow_upholds (t : BitVec 8) : Upholds (bindWindow d t s) s d := by
  unfold bindWindow
  split
  · next h w c hl hc =>
    obtain ⟨-, hw⟩ := liveWindow_eq_some.mp hl
    split
    · exact upholds_refused hs _
    · next ho =>
      rw [not_or, not_not, not_not] at ho
      obtain ⟨hwo, hco⟩ := ho
      split
      · exact upholds_refused hs _
      · next hst =>
        rw [not_not] at hst
        refine upholds_done_of_frame (l := [.windows, .channels, .arbiter, .memory]) hs
          (.of_grantDecision ((boundTo hw hst (hwo ▸ hco)).structured hs hwo)) ?_ (by simp) (by simp) _
        exact ((((Frame.setWindow s h _).mono (by simp)).trans ((Frame.updChannel _ c _).mono (by simp)))).trans
          ((Frame.grantDecision _).mono (by simp))
  · exact upholds_refused hs _

end

end Sys2Proof.Machine

namespace Sys2Proof.Machine

/-! ## OPEN DOMAIN keeps the structure (R144) -/

/-- A CLOSED domain owns nothing, and can become OPEN. -/
theorem Structured.opens {s : State} (hs : Structured s) {x : DomainId} (hx : (s.domain x).state = .closed) (hx0 : x ≠ 0)
    {f : Domain → Domain} (hf : ∀ y, (f y).state = .opened ∧ (f y).clearing = y.clearing ∧ (f y).awaited = y.awaited) :
    Structured (s.updDomain x f) := by
  obtain ⟨hopen, hclear, hawait⟩ := hf (s.domain x)
  have hself : (s.updDomain x f).domain x = f (s.domain x) := by simp
  have hother : ∀ y, y ≠ x → (s.updDomain x f).domain y = s.domain y := fun y hy => by simp [hy]
  have hnot : (s.domain x).clearing = false := by
    rw [← Bool.not_eq_true, (hs.domain x).closing hx0, hx]
    simp
  have hkeeps : ∀ y, KeepsDomain s (s.updDomain x f) y := fun y => by
    by_cases hy : y = x
    · subst hy
      rw [KeepsDomain, hself, hopen, hclear]
      exact ⟨fun _ => by simp, id⟩
    · rw [KeepsDomain, hother y hy]
      exact ⟨id, id⟩
  have haw : ∀ y, ((s.updDomain x f).domain y).awaited = (s.domain y).awaited := fun y => by
    by_cases hy : y = x
    · rw [hy, hself, hawait]
    · rw [hother y hy]
  have hout : Outside (fun _ => False) s (s.updDomain x f) :=
    { channel := fun _ _ => rfl, domain := fun _ _ y _ => hkeeps y, holder := fun _ _ => Iff.rfl
      disable := fun _ _ _ h => h, window := fun _ w _ hw _ _ _ => ⟨w, hw, .refl w⟩ }
  refine hs.confined hout (fun _ h => h.elim) (fun h w hw => .inl ⟨w, hw, .refl w, hkeeps _, (hs.window h w hw).draining,
    fun _ _ _ h => h⟩) (by rw [hother 0 hx0.symm]; exact hs.supervisor) hs.held
    (fun u hu => hout.unitFits hs hu not_false rfl fun w hw _ => ⟨w, hw, .refl w⟩) (fun y => ?_)
    fun y => ⟨fun hb => ?_, fun z hz => ?_⟩
  · by_cases hy : y = x
    · subst hy
      refine ⟨fun _ => ?_, ?_, fun _ h => ?_, fun h => ?_⟩
      · rw [hself, hopen, hclear, hnot]
        simp
      · rw [haw, (hs.domain y).awaited, hself, hclear, hnot]
        rfl
      all_goals
        rw [hself, hclear, hnot] at h
        cases h
    · refine ⟨?_, ?_, ?_, ?_⟩ <;> rw [hother y hy]
      exacts [(hs.domain y).closing, (hs.domain y).awaited, (hs.domain y).slots, (hs.domain y).command]
  · have ho := (hs.port y).opened hb
    rw [hother y fun e => by rw [e, hx] at ho; cases ho]
    exact ho
  · have hh := (hs.port y).holds z hz
    cases z with
    | close n cs => simpa only [State.waitHolds, noneAwaited_congr haw] using hh
    | masterClear n cs => simpa only [State.waitHolds, noneAwaited_congr haw] using hh
    | _ => exact hh

theorem openDomain_upholds {s : State} {d : DomainId} (hs : Taking s d) (t : BitVec 8) : Upholds (openDomain d t s) s d := by
  refine upholds_supervisor hs fun _ => upholds_onDomain hs fun x => ?_
  dsimp only
  split
  · exact upholds_refused hs _
  · split
    · exact upholds_refused hs _
    · next hx =>
      rw [not_or, not_not] at hx
      exact upholds_done_of_frame hs ⟨hs.upheld.structured.opens hx.2 hx.1
        (f := fun y => { y with state := .opened, quota := bits (s.taken d)[0] 0 8 }) fun _ => ⟨rfl, rfl, rfl⟩,
        hs.upheld.granted.congr rfl rfl⟩ (Frame.updDomain s x _) (by simp) (by simp) _

/-! ## The start of a teardown keeps the structure (R152, R156) -/

/-- Windows, channels and the ports of domains 1 to 3 are as the start of a teardown of `ds` makes them, and a domain of
`ds` with a unit in flight is not CLOSED. -/
structure TearsDown (s t : State) (ds : DomainId → Bool) : Prop where
  window : ∀ h, t.window h = (s.beginTeardown ds).window h
  channel : ∀ c, t.channel c = tornChannel ds (s.channel c)
  holder : t.arbiter.holder = s.arbiter.holder
  memory : t.memory = s.memory
  port : ∀ d, d ≠ 0 → t.port d = if ds d then tornPort d (s.port d) else s.port d
  other : ∀ d, ds d = false → t.domain d = s.domain d
  owns : ∀ d c, ds d = true → (s.channel c).owner = some d → (s.channel c).state = .moving → (t.domain d).state ≠ .closed

/-- A channel released fits, the port not being its own. -/
theorem ChannelFits.of_released {t : State} {c : ChannelId} {ch : Channel} (hself : t.channel c = ch.released)
    (hh : t.arbiter.holder ≠ some c) : ChannelFits t c := by
  have hhead := headIs_nil (s := t) (c := c) (by rw [hself]; rfl) .active
  constructor <;> rw [hself]
  case nodup => exact List.nodup_nil
  case members => exact fun h hh => by cases hh
  case sound => refine ⟨fun _ => ⟨rfl, rfl⟩, ?_, ?_, fun _ => hhead, ?_⟩ <;> simp [Channel.released, Channel.reset]
  case domain => exact fun e he => by cases he
  case disable => exact fun h => by cases h
  case unowned => exact fun _ => (channelAtReset_released _).1
  case holder => exact iff_of_false (by simp [Channel.released, Channel.reset]) hh

section
variable {s t : State} {ds : DomainId → Bool}

/-- The channel belongs to a domain of `ds`. -/
def OwnedBy (ds : DomainId → Bool) (s : State) (c : ChannelId) : Prop := ∃ d, (s.channel c).owner = some d ∧ ds d = true

theorem not_ownedBy {c : ChannelId} {d : DomainId} (hc : ¬ OwnedBy ds s c) (ho : (s.channel c).owner = some d) :
    ds d = false := by
  rw [← Bool.not_eq_true]
  exact fun h => hc ⟨d, ho, h⟩

variable (hs : Structured s) (hx : TearsDown s t ds)
include hx

theorem TearsDown.inFlight (h : Handle) : t.inFlight h = s.inFlight h := by simp only [State.inFlight, hx.memory]

theorem TearsDown.window_other {h : Handle} {w : Window} (hw : s.window h = some w) (hd : ds w.owner = false) :
    t.window h = some w := by
  rw [hx.window]
  exact beginTeardown_live.mpr ⟨w, hw, .inl ⟨hd, rfl⟩⟩

theorem TearsDown.channel_other {c : ChannelId} (hc : ¬ OwnedBy ds s c) : t.channel c = s.channel c := by
  rw [hx.channel]
  exact tornChannel_other fun d ho => not_ownedBy hc ho

theorem TearsDown.keepsDomain {d : DomainId} (hd : ds d = false) : KeepsDomain s t d := by
  rw [KeepsDomain, hx.other d hd]
  exact ⟨id, id⟩

/-- The units of every domain are as they were. -/
theorem TearsDown.unitsOf (d : DomainId) : t.unitsOf d = s.unitsOf d := by
  refine unitsOf_congr fun c => ?_
  by_cases hc : OwnedBy ds s c
  · have hcc := hc
    obtain ⟨e, ho, he⟩ := hc
    by_cases hm : (s.channel c).state = .moving
    · rw [hx.channel, tornChannel_moving ho he hm]
    · rw [hx.channel, tornChannel_idle ho he hm]
      simp [Channel.released, Channel.reset, hm]
  · rw [hx.channel_other hc]

include hs

theorem TearsDown.outside (h0 : (s.port 0).waiting = none) : Outside (OwnedBy ds s) s t where
  channel := fun c hc => hx.channel_other hc
  domain := fun c hc d ho => hx.keepsDomain (not_ownedBy hc ho)
  holder := fun c _ => by rw [hx.holder]
  disable := fun c hc d hp => by
    have hd : d ≠ 0 := fun h => by rw [h, h0] at hp; cases hp
    have hh := (hs.port d).holds _ hp
    simp only [State.waitHolds, Bool.and_eq_true, beq_iff_eq] at hh
    rw [hx.port d hd, not_ownedBy hc hh.2]
    exact hp
  window := fun h w c hw hon hwc hc => by
    obtain ⟨x, hxc, ho⟩ := hs.channel_of_engaged hw (engaged_of_onChain hon)
    rw [hwc] at hxc
    cases hxc
    exact ⟨w, hx.window_other hw (not_ownedBy hc ho), .refl w⟩

/-- The window of a domain of `ds` that is left is the unit's, DRAINING. -/
theorem TearsDown.windowFits {h : Handle} {w : Window} (hw : s.window h = some w) (hk : s.keptInTeardown h w = true)
    (hd : ds w.owner = true) : WindowFits t h { w with state := .draining } := by
  have hin : s.inFlight h = true := (keptInTeardown_iff.mp hk).elim (hs.window h w hw).draining And.right
  obtain ⟨u, hu, rfl⟩ := inFlight_iff.mp hin
  obtain ⟨v, hv, -, ho, -⟩ := (hs.unit u hu).window
  rw [hw] at hv
  cases hv
  exact ⟨fun h => (by cases h), fun _ => (hx.inFlight _).trans hin, hx.owns _ _ hd ho (hs.moving_of_unit hu), fun _ => rfl⟩

theorem TearsDown.channelFits {c : ChannelId} (hc : OwnedBy ds s c) : ChannelFits t c := by
  obtain ⟨d, ho, hd⟩ := hc
  have fits := hs.channel c
  by_cases hm : (s.channel c).state = .moving
  · have hself : t.channel c = { s.channel c with chain := [], disablePending := false } := by
      rw [hx.channel, tornChannel_moving ho hd hm]
    have hstall := fits.sound.not_stalled (by simp [hm])
    constructor <;> rw [hself]
    case nodup => exact List.nodup_nil
    case members => exact fun h hh => by cases hh
    case sound => simp [RecordSound, ho, hm, hstall]
    case domain =>
      intro e he
      dsimp only at he
      rw [ho] at he
      cases he
      exact ⟨hx.owns d c hd ho hm, fun _ => ⟨hm, rfl, rfl⟩⟩
    case disable => exact fun h => by cases h
    case unowned => exact fun h => by simp [ho] at h
    case holder => rw [hx.holder]; exact fits.holder
  · have hself : t.channel c = (s.channel c).released := by rw [hx.channel, tornChannel_idle ho hd hm]
    refine .of_released hself fun hh => hm ?_
    rw [hx.holder] at hh
    exact fits.holder.mpr hh

theorem TearsDown.unitFits (h0 : (s.port 0).waiting = none) {u : UnitRecord} (hu : s.memory.record = some u) :
    UnitFits t u := by
  by_cases hc : OwnedBy ds s u.channel
  · obtain ⟨d, ho, hd⟩ := hc
    obtain ⟨hholder, hcycle, w, hw, hwc, hown, hrec, hst⟩ := hs.unit u hu
    have hown' := hown
    rw [ho] at hown'
    cases hown'
    have hself : t.channel u.channel = { s.channel u.channel with chain := [], disablePending := false } := by
      rw [hx.channel, tornChannel_moving ho hd (hs.moving_of_unit hu)]
    have hk : s.keptInTeardown u.window w = true :=
      keptInTeardown_iff.mpr (hst.symm.imp And.left fun h => ⟨h.1, (inFlight_unit hu).mpr rfl⟩)
    refine ⟨hx.holder.trans hholder, fun h => by rw [hx.memory]; exact hcycle h, { w with state := .draining }, ?_, hwc,
      by rw [hself]; exact ho, hrec, .inr ⟨rfl, headIs_nil (by rw [hself]) _⟩⟩
    rw [hx.window]
    exact beginTeardown_live.mpr ⟨w, hw, .inr ⟨hd, hk, rfl⟩⟩
  · refine (hx.outside hs h0).unitFits hs hu hc hx.memory fun w hw hst => ?_
    obtain ⟨v, hv, -, ho, -⟩ := (hs.unit u hu).window
    rw [hw] at hv
    cases hv
    exact ⟨w, hx.window_other hw (not_ownedBy hc ho), .refl w⟩

/-- The ports of domains 1 to 3: those torn down wait no more, and the others wait on as they did. -/
theorem TearsDown.portFits {d : DomainId} (hd : d ≠ 0) : PortFits t d := by
  cases hds : ds d
  case true =>
    have hnone : (t.port d).waiting = none := by
      rw [hx.port d hd, hds, if_pos rfl, tornPort]
      split
      · rfl
      · next h => simpa [hd, Port.busy] using h
    exact ⟨fun h => by simp [Port.busy, hnone] at h, fun y hy => by rw [hnone] at hy; cases hy⟩
  case false =>
    have hp : t.port d = s.port d := by rw [hx.port d hd, hds]; rfl
    refine ⟨fun h => ?_, fun y hy => ?_⟩
    · rw [hx.other d hds]
      exact (hs.port d).opened (hp ▸ h)
    · rw [hp] at hy
      have hh := (hs.port d).holds y hy
      have stays : ∀ h w, s.window h = some w → ds w.owner = false →
          ∃ v, t.window h = some v ∧ v.state = w.state ∧ v.owner = w.owner := fun h w hw ho =>
        ⟨w, hx.window_other hw ho, rfl, rfl⟩
      cases y with
      | revoke h =>
        refine drainWait_congr (p := fun o => o == d || d == 0) (hx.inFlight h) (fun w hw _ ho => stays h w hw ?_) hh
        simp only [Bool.or_eq_true, beq_iff_eq, hd, or_false] at ho
        rw [ho, hds]
      | cut h n =>
        refine drainWait_congr (p := fun o => o == d) (hx.inFlight h) (fun w hw _ ho => stays h w hw ?_) hh
        rw [beq_iff_eq.mp ho, hds]
      | disable c =>
        have ho : (s.channel c).owner = some d := by
          simp only [State.waitHolds, Bool.and_eq_true, beq_iff_eq] at hh
          exact hh.2
        rw [State.waitHolds, hx.channel_other fun ⟨e, he, hde⟩ => by
          rw [ho] at he
          cases he
          rw [hds] at hde
          cases hde]
        exact hh
      | close n cs => simp [State.waitHolds, hd] at hh
      | masterClear n cs => simp [State.waitHolds, hd] at hh

/-- While the port of domain 0 was idle a domain left alone is under no teardown. -/
theorem TearsDown.domainFits (h0 : (s.port 0).waiting = none) {d : DomainId} (hd : ds d = false) : DomainFits t d := by
  have fits := hs.domain d
  have hclear : (s.domain d).clearing = false := by
    by_contra hc
    have := fits.command (by simpa using hc)
    simp [Port.inTeardown, h0] at this
  refine ⟨?_, ?_, ?_, ?_⟩ <;> rw [hx.other d hd]
  · exact fits.closing
  · rw [fits.awaited, hclear]
    rfl
  · exact fits.slots
  · simp [hclear]

/-- A teardown keeps the structure if what it makes of its domains and of the port of domain 0 fits. -/
theorem TearsDown.structured (h0 : (s.port 0).waiting = none) (hsup : (t.domain 0).state = .opened)
    (hdom : ∀ d, ds d = true → DomainFits t d) (hport : PortFits t 0) : Structured t := by
  refine hs.confined (hx.outside hs h0) (fun c hc => hx.channelFits hs hc) (fun h v hv => ?_) hsup
    (by rw [hx.holder, hx.memory]; exact hs.held) (fun u hu => hx.unitFits hs h0 (hx.memory ▸ hu)) (fun d => ?_) fun d => ?_
  · rw [hx.window] at hv
    obtain ⟨w, hw, ⟨hd, rfl⟩ | ⟨hd, hk, rfl⟩⟩ := beginTeardown_live.mp hv
    · refine .inl ⟨v, hw, .refl v, hx.keepsDomain hd, fun hst => (hx.inFlight h).trans ((hs.window h v hw).draining hst),
        fun hon c hvc ⟨d, ho, hds⟩ => ?_⟩
      obtain ⟨x, hxc, hvo⟩ := hs.channel_of_engaged hw (engaged_of_onChain hon)
      rw [hvc] at hxc
      cases hxc
      rw [hvo] at ho
      cases ho
      rw [hd] at hds
      cases hds
    · exact .inr (hx.windowFits hs hw hk hd)
  · cases hd : ds d
    · exact hx.domainFits hs h0 hd
    · exact hdom d hd
  · by_cases hd : d = 0
    · subst hd
      exact hport
    · exact hx.portFits hs hd

end

theorem emptyUnused_some {d : DomainId} {r x : RangeSlot} (hd : d ≠ 0) (h : emptyUnused d r = some x) : 0 < x.homes := by
  unfold emptyUnused at h
  split at h
  · cases h
  · next hn =>
    cases h
    exact Nat.pos_of_ne_zero fun h0 => hn ⟨hd, h0⟩

theorem tornDomain_slot_homes {s : State} {d : DomainId} {x : Domain} (hd : d ≠ 0) {i : SlotId} {r : RangeSlot}
    (hr : (s.tornDomain d x).slots[i] = some r) : 0 < r.homes := by
  have hs := getElem_ofFn_fin (fun i : SlotId =>
    match x.slots[i] with
    | none => none
    | some r => emptyUnused d (r.lessHomes
        ((s.freedAtOnce d).filter fun h => (s.window h).any fun (w : Window) => w.home == i).length)) i
  have hr' := hs.symm.trans hr
  split at hr'
  · cases hr'
  · exact emptyUnused_some hd hr'

/-! ## CLOSE DOMAIN and MASTER CLEAR -/

section
variable {s : State} {ds : DomainId → Bool}

theorem beginTeardown_port_zero : (s.beginTeardown ds).port 0 = s.port 0 := by
  rw [beginTeardown_port]
  split <;> simp [tornPort]

theorem tornDomain_state (d : DomainId) (x : Domain) :
    (s.tornDomain d x).state = if d = 0 then x.state else .closing := (tornDomain_state_quota s d x).1

theorem tornDomain_clearing (d : DomainId) (x : Domain) : (s.tornDomain d x).clearing = true :=
  (tornDomain_state_quota s d x).2.2

theorem tornDomain_awaited (d : DomainId) (x : Domain) : (s.tornDomain d x).awaited = s.unitsOf d := rfl

theorem beginTeardown_supervisor (hs : (s.domain 0).state = .opened) :
    ((s.beginTeardown ds).domain 0).state = .opened := by
  rw [beginTeardown_domain]
  split
  · rw [tornDomain_state, if_pos rfl]
    exact hs
  · exact hs

variable (hds : ∀ d, ds d = true → (s.domain d).state = .opened)
include hds

/-- The teardown that waits for a unit. -/
theorem Structured.teardown_waits (hs : Structured s) (h0 : (s.port 0).waiting = none) {x : Waiting}
    (hx : ∀ p : Port, p.waiting = some x → p.inTeardown = true) (hn : (s.beginTeardown ds).waitHolds 0 x = true) :
    Structured ((s.beginTeardown ds).updPort 0 fun p => { p with waiting := some x }) := by
  generalize ht : (s.beginTeardown ds).updPort 0 (fun p => { p with waiting := some x }) = t
  have hf := frame_beginTeardown s ds
  have hdom : ∀ e, t.domain e = (s.beginTeardown ds).domain e := fun e => by rw [← ht, State.updPort_domain]
  have hport : (t.port 0).waiting = some x := by simp [← ht]
  have htorn : TearsDown s t ds :=
    { window := fun h => by rw [← ht, State.updPort_window]
      channel := fun c => by rw [← ht, State.updPort_channel]; exact beginTeardown_channel s ds c
      holder := by rw [← ht, State.updPort_arbiter]; exact congrArg Arbiter.holder (hf .arbiter (by simp))
      memory := by rw [← ht, State.updPort_memory]; exact hf .memory (by simp)
      port := fun d hd => by rw [← ht, State.updPort_port, if_neg hd]; exact beginTeardown_port s ds d
      other := fun d hd => by rw [hdom, beginTeardown_domain, hd]; rfl
      owns := fun d _ hd _ _ => by
        rw [hdom, beginTeardown_domain, if_pos hd, tornDomain_state]
        split
        · simp [hds d hd]
        · simp }
  have hsup : (t.domain 0).state = .opened := by
    rw [hdom]
    exact beginTeardown_supervisor hs.supervisor
  refine htorn.structured hs h0 hsup (fun d hd => ?_) ⟨fun _ => hsup, fun y hy => ?_⟩
  · have hself : t.domain d = s.tornDomain d (s.domain d) := by rw [hdom, beginTeardown_domain, if_pos hd]
    constructor <;> rw [hself]
    · exact fun hd0 => iff_of_true (tornDomain_clearing d _) ((tornDomain_state d _).trans (if_neg hd0))
    · rw [htorn.unitsOf, tornDomain_clearing, tornDomain_awaited, if_pos rfl]
    · exact fun hd0 _ i r hr => tornDomain_slot_homes hd0 hr
    · exact fun _ => hx _ hport
  · rw [hport] at hy
    cases hy
    rw [← ht, waitHolds_updPort]
    exact hn

omit hds in
/-- The teardown that completes at once. -/
theorem Structured.teardown_done (hs : Structured s) (h0 : (s.port 0).waiting = none)
    (hn : (s.beginTeardown ds).noneAwaited = true) : Structured (s.beginTeardown ds).finishDomains := by
  have hf := frame_beginTeardown s ds
  have hfin := frame_finishDomains (s.beginTeardown ds)
  have haw : ∀ d, ((s.beginTeardown ds).domain d).awaited = 0 := noneAwaited_iff.mp hn
  have hnone : ∀ d c, ds d = true → (s.channel c).owner = some d → (s.channel c).state ≠ .moving := fun d c hd ho => by
    have := haw d
    rw [beginTeardown_domain, if_pos hd] at this
    exact unitsOf_eq_zero.mp this c ho
  have hdom : ∀ e, (s.beginTeardown ds).finishDomains.domain e = finishedDomain e ((s.beginTeardown ds).domain e) :=
    fun e => finishDomains_domain _ e
  have hclear : ∀ d, ds d = false → (s.domain d).clearing = false := fun d _ => by
    by_contra hc
    have := (hs.domain d).command (by simpa using hc)
    simp [Port.inTeardown, h0] at this
  have htorn : TearsDown s (s.beginTeardown ds).finishDomains ds :=
    { window := hfin.same_window (by simp)
      channel := fun c => (hfin.same_channel (by simp) c).trans (beginTeardown_channel s ds c)
      holder := (congrArg Arbiter.holder (hfin .arbiter (by simp))).trans (congrArg Arbiter.holder (hf .arbiter (by simp)))
      memory := (hfin .memory (by simp)).trans (hf .memory (by simp))
      port := fun d _ => (hfin.same_port (by simp) d).trans (beginTeardown_port s ds d)
      other := fun d hd => by
        rw [hdom, beginTeardown_domain, hd]
        exact finishedDomain_not_clearing (hclear d hd)
      owns := fun d c hd ho hm => absurd hm (hnone d c hd ho) }
  have hself : ∀ d, ds d = true → (s.beginTeardown ds).finishDomains.domain d =
      finishedDomain d (s.tornDomain d (s.domain d)) := fun d hd => by rw [hdom, beginTeardown_domain, if_pos hd]
  have hsup : ((s.beginTeardown ds).finishDomains.domain 0).state = .opened := by
    cases hd : ds 0
    · rw [htorn.other 0 hd]
      exact hs.supervisor
    · rw [hself 0 hd, finishedDomain_supervisor (tornDomain_clearing 0 _)]
      exact hs.supervisor
  have hport : (s.beginTeardown ds).finishDomains.port 0 = s.port 0 :=
    (hfin.same_port (by simp) 0).trans beginTeardown_port_zero
  refine htorn.structured hs h0 hsup (fun d hd => ?_) ⟨fun _ => hsup, fun y hy => ?_⟩
  · have hdone : ((s.beginTeardown ds).finishDomains.domain d).clearing = false ∧
        (d ≠ 0 → ((s.beginTeardown ds).finishDomains.domain d).state = .closed) ∧
        ((s.beginTeardown ds).finishDomains.domain d).awaited = 0 := by
      have hz := haw d
      rw [beginTeardown_domain, if_pos hd] at hz
      rw [hself d hd]
      by_cases h : d = 0
      · subst h
        rw [finishedDomain_supervisor (tornDomain_clearing 0 _)]
        exact ⟨rfl, fun h => absurd rfl h, hz⟩
      · rw [finishedDomain_closes (tornDomain_clearing d _) h]
        exact ⟨rfl, fun _ => rfl, hz⟩
    obtain ⟨hc, hst, hz⟩ := hdone
    exact ⟨fun h => by simp [hc, hst h], by simp [hc, hz], by simp [hc], by simp [hc]⟩
  · rw [hport, h0] at hy
    cases hy

omit hds in
theorem apply_done (t a : State) (d : DomainId) (r : Words4) :
    (Completion.done t r).apply a d = t.updPort d fun p => p.completed .done r := rfl

omit hds in
theorem apply_waits (t a : State) (d : DomainId) (x : Waiting) :
    (Completion.waits t x).apply a d = t.updPort d fun p => { p with waiting := some x } := rfl

/-- A teardown that domain 0 starts upholds the structure. -/
theorem upheld_tearDown (hs : Structured s) (h0 : (s.port 0).waiting = none) (hg : NoGrantDue (s.beginTeardown ds))
    {k : Nat → ChannelSet → Waiting} (hk : ∀ n cs, k n cs = .close n cs ∨ k n cs = .masterClear n cs) (a : State) :
    Upheld ((s.tearDown ds k).apply a 0) ∧ ((s.tearDown ds k).apply a 0).resetAsserted = s.resetAsserted := by
  have htear : s.tearDown ds k =
      if (s.beginTeardown ds).noneAwaited then
        .done (s.beginTeardown ds).finishDomains (teardownResults (s.tornCount ds) (s.channelSet ds))
      else .waits (s.beginTeardown ds) (k (s.tornCount ds) (s.channelSet ds)) := rfl
  rw [htear]
  split
  · next hn =>
    have hfin := frame_finishDomains (s.beginTeardown ds)
    have hup : Upheld (s.beginTeardown ds).finishDomains :=
      ⟨hs.teardown_done h0 hn, hg.congr (hfin .arbiter (by simp)) (hfin .channels (by simp))⟩
    have hport : ((s.beginTeardown ds).finishDomains.port 0).waiting = none := by
      rw [hfin.same_port (by simp), beginTeardown_port_zero, h0]
    rw [apply_done, State.updPort_resetAsserted]
    exact ⟨hup.of_waiting 0 (f := fun p => p.completed .done _) hport.symm,
      (hfin .resetLine (by simp)).trans (frame_beginTeardown s ds .resetLine (by simp))⟩
  · next hn =>
    rw [apply_waits, State.updPort_resetAsserted]
    refine ⟨⟨hs.teardown_waits hds h0 (fun p hp => ?_) ?_, hg.congr (State.updPort_arbiter _ _ _)
      (State.updPort_channels _ _ _)⟩, frame_beginTeardown s ds .resetLine (by simp)⟩
    · obtain h | h := hk (s.tornCount ds) (s.channelSet ds) <;> rw [h] at hp <;> simp [Port.inTeardown, hp]
    · obtain h | h := hk (s.tornCount ds) (s.channelSet ds) <;> rw [h] <;> simpa [State.waitHolds] using hn

end

/-- A channel that is PENDING after the start of a teardown was, and its owner is left alone. -/
theorem tornChannel_pending {ds : DomainId → Bool} {ch : Channel} (h : (tornChannel ds ch).state = .pending) :
    ch.state = .pending ∧ ∀ d, ch.owner = some d → ds d = false := by
  by_cases ho : ∀ d, ch.owner = some d → ds d = false
  · rw [tornChannel_other ho] at h
    exact ⟨h, ho⟩
  · push Not at ho
    obtain ⟨d, ho, hd⟩ := ho
    rw [ne_eq, Bool.not_eq_false] at hd
    by_cases hm : ch.state = .moving
    · rw [tornChannel_moving ho hd hm] at h
      rw [hm] at h
      cases h
    · rw [tornChannel_idle ho hd hm] at h
      cases h

section
variable {s : State} {d : DomainId} (hs : Taking s d)
include hs

theorem closeDomain_upholds (t : BitVec 8) : Upholds (closeDomain d t s) s d := by
  refine upholds_supervisor hs fun hd => upholds_onDomain hs fun x => ?_
  subst hd
  split
  · exact upholds_refused hs _
  · next hx =>
    rw [not_or, not_not] at hx
    refine upheld_tearDown (fun y hy => ?_) hs.upheld.structured hs.idle ?_ (fun n cs => .inl rfl) s
    · rw [beq_iff_eq] at hy
      rw [hy]
      exact hx.2
    · refine hs.upheld.granted.of_pending rfl id fun c hc => ?_
      rw [beginTeardown_channel] at hc
      exact (tornChannel_pending hc).1

theorem masterClear_upholds (t : BitVec 8) : Upholds (masterClear d t s) s d := by
  refine upholds_supervisor hs fun hd => ?_
  subst hd
  have hst := hs.upheld.structured
  have hrun : Structured s.running := hst.congr (fun _ => .refl _) (fun _ => rfl) rfl rfl rfl rfl
  have hds : ∀ x, s.clearedByMaster x = true → (s.domain x).state = .opened := fun x hx => by
    simp only [State.clearedByMaster, Bool.or_eq_true, beq_iff_eq] at hx
    obtain rfl | hx := hx
    · exact hst.supervisor
    · exact hx
  refine upheld_tearDown (s := s.running) hds hrun hs.idle ?_ (fun n cs => .inr rfl) s
  intro _ _ c hc
  rw [beginTeardown_channel] at hc
  obtain ⟨hp, hown⟩ := tornChannel_pending hc
  have hfits := hst.channel c
  obtain ⟨hunowned, -⟩ := hfits.sound
  cases ho : (s.channel c).owner with
  | none =>
    have := (hunowned ho).1
    rw [show (s.channel c).state = .pending from hp] at this
    cases this
  | some x =>
    have hnot := hown x ho
    have hclosed := (hfits.domain x ho).1
    simp only [State.clearedByMaster, Bool.or_eq_false_iff, beq_eq_false_iff_ne] at hnot
    cases hx : (s.domain x).state
    case opened => exact hnot.2 hx
    case closed => exact hclosed hx
    case closing =>
      have := ((hst.domain x).closing hnot.1).mpr hx
      rw [hs.no_teardown x] at this
      cases this

end

end Sys2Proof.Machine

namespace Sys2Proof.Machine

/-! ## Every command -/

section
variable {s : State} {d : DomainId} (hs : Taking s d)
include hs

/-! The commands that change nothing the structure reads (R25, R103, R127, R128, R130, R151). -/

theorem readWindow_upholds (t : BitVec 8) : Upholds (readWindow d t s) s d := by
  have same : ∀ r, Upholds (.done s r) s d := upholds_quiet hs (Frame.refl s _)
  unfold readWindow
  split
  · exact upholds_refused hs _
  · split
    · exact upholds_refused hs _
    · split
      · exact same _
      · exact same _
      · exact upholds_refused hs _

theorem readDomain_upholds (t : BitVec 8) : Upholds (readDomain d t s) s d := by
  unfold readDomain
  split
  · exact upholds_refused hs _
  · exact upholds_onDomain hs fun x => upholds_onSlot hs fun i => upholds_quiet hs (Frame.refl s _) _

theorem retireNotice_upholds (t : BitVec 8) : Upholds (retireNotice d t s) s d := by
  unfold retireNotice
  split
  · exact upholds_refused hs _
  · split
    · exact upholds_refused hs _
    · split
      · exact upholds_refused hs _
      · exact upholds_quiet hs ((Frame.updNotice s d _).mono (by simp)) _

theorem retireTop_upholds (t : BitVec 8) : Upholds (retireTop d t s) s d := by
  unfold retireTop
  split
  · exact upholds_refused hs _
  · exact upholds_quiet hs ((Frame.updNotice s d _).mono (by simp)) _

theorem setNotices_upholds (t : BitVec 8) : Upholds (setNotices d t s) s d := by
  unfold setNotices
  split
  · exact upholds_refused hs _
  · exact upholds_quiet hs ((Frame.updNotice s d _).mono (by simp)) _

theorem setClock_upholds (t : BitVec 8) : Upholds (setClock d t s) s d := by
  refine upholds_supervisor hs fun _ => ?_
  dsimp only
  split
  · exact upholds_refused hs _
  · exact upholds_quiet hs ((Frame.clock s _).mono (by simp)) _

/-- The block that any code names upholds the structure. -/
theorem bodyOf_upholds (k t : BitVec 8) : Upholds (bodyOf k d t s) s d := by
  generalize hf : bodyOf k = f
  unfold bodyOf at hf
  split at hf <;> subst hf
  case h_1 => exact openWindow_upholds hs t
  case h_2 => exact releaseWindow_upholds hs t
  case h_3 => exact bindWindow_upholds hs t
  case h_4 => exact revokeWindow_upholds hs t
  case h_5 => exact rewindWindow_upholds hs t
  case h_6 => exact amendWindow_upholds hs t
  case h_7 => exact touchWindow_upholds hs t
  case h_8 => exact readWindow_upholds hs t
  case h_9 => exact enableChannel_upholds hs t
  case h_10 => exact disableChannel_upholds hs t
  case h_11 => exact maskChannel_upholds hs t
  case h_12 => exact unmaskChannel_upholds hs t
  case h_13 => exact setChannel_upholds hs t
  case h_14 => exact cutChain_upholds hs t
  case h_15 => exact resumeChannel_upholds hs t
  case h_16 => exact pulseChannel_upholds hs t
  case h_17 => exact readChannel_upholds hs t
  case h_18 => exact retireNotice_upholds hs t
  case h_19 => exact retireTop_upholds hs t
  case h_20 => exact setNotices_upholds hs t
  case h_21 => exact openDomain_upholds hs t
  case h_22 => exact closeDomain_upholds hs t
  case h_23 => exact setQuota_upholds hs t
  case h_24 => exact setRange_upholds hs t
  case h_25 => exact clearRange_upholds hs t
  case h_26 => exact assignChannel_upholds hs t
  case h_27 => exact unassignChannel_upholds hs t
  case h_28 => exact setArbiter_upholds hs t
  case h_29 => exact pauseArbiter_upholds hs t
  case h_30 => exact runArbiter_upholds hs t
  case h_31 => exact setClock_upholds hs t
  case h_32 => exact readDomain_upholds hs t
  case h_33 => exact masterClear_upholds hs t
  case h_34 => exact upholds_refused hs _

end

end Sys2Proof.Machine

namespace Sys2Proof.Machine

/-! ## The unit in flight goes on -/

/-- The unit in flight, where there is one, is the same or the next of the same window; nothing else has changed that the
structure reads. -/
structure Reissued (s t : State) : Prop where
  domain : ∀ d, t.domain d = s.domain d
  port : ∀ d, t.port d = s.port d
  holder : t.arbiter.holder = s.arbiter.holder
  channel : ∀ c, (s.channel c).state ≠ .moving → t.channel c = s.channel c
  moving : ∀ c, (s.channel c).state = .moving → (t.channel c).chain = (s.channel c).chain ∧
    (t.channel c).owner = (s.channel c).owner ∧ (t.channel c).state = (s.channel c).state ∧
    (t.channel c).disablePending = (s.channel c).disablePending ∧ (t.channel c).stall = (s.channel c).stall
  window : ∀ x, s.inFlight x = false → t.window x = s.window x
  none : s.memory.record = none → t.memory.record = none
  unit : ∀ u w, s.memory.record = some u → s.window u.window = some w → RecordOf u w →
    ∃ u' v, t.memory.record = some u' ∧ t.window u.window = some v ∧ u'.channel = u.channel ∧ u'.window = u.window ∧
      (u'.phase = .busCycle → t.memory.stale = false) ∧ RecordOf u' v ∧
      v.state = w.state ∧ v.owner = w.owner ∧ v.channel = w.channel

section
variable {s t : State} (hs : Structured s) (hx : Reissued s t)
include hx

theorem Reissued.fields (c : ChannelId) : (t.channel c).chain = (s.channel c).chain ∧
    (t.channel c).owner = (s.channel c).owner ∧ (t.channel c).state = (s.channel c).state ∧
    (t.channel c).disablePending = (s.channel c).disablePending ∧ (t.channel c).stall = (s.channel c).stall := by
  by_cases hc : (s.channel c).state = .moving
  · exact hx.moving c hc
  · rw [hx.channel c hc]
    exact ⟨rfl, rfl, rfl, rfl, rfl⟩

include hs

theorem Reissued.inFlight (h : Handle) : t.inFlight h = s.inFlight h := by
  cases hu : s.memory.record with
  | none => simp [State.inFlight, hu, hx.none hu]
  | some u =>
    obtain ⟨w, hw, -, -, hrec, -⟩ := (hs.unit u hu).window
    obtain ⟨u', v, hu', -, -, hwin, -⟩ := hx.unit u w hu hw hrec
    rw [Bool.eq_iff_iff, inFlight_unit hu, inFlight_unit hu', hwin]

/-- Every window stands in its state on its channel. -/
theorem Reissued.stands {h : Handle} {w : Window} (hw : s.window h = some w) :
    ∃ v, t.window h = some v ∧ v.state = w.state ∧ v.owner = w.owner ∧ v.channel = w.channel := by
  cases hf : s.inFlight h with
  | false => exact ⟨w, (hx.window h hf).trans hw, rfl, rfl, rfl⟩
  | true =>
    obtain ⟨u, hu, rfl⟩ := inFlight_iff.mp hf
    obtain ⟨y, hy, -, -, hrec, -⟩ := (hs.unit u hu).window
    rw [hw] at hy
    cases hy
    obtain ⟨-, v, -, hv, -, -, -, -, hst⟩ := hx.unit u w hu hw hrec
    exact ⟨v, hv, hst⟩

/-- Every window has stood so. -/
theorem Reissued.stood {h : Handle} {v : Window} (hv : t.window h = some v) :
    ∃ w, s.window h = some w ∧ v.state = w.state ∧ v.owner = w.owner ∧ v.channel = w.channel := by
  cases hw : s.window h with
  | none =>
    have hf : s.inFlight h = false := by
      rw [← Bool.not_eq_true]
      intro hf
      obtain ⟨u, hu, rfl⟩ := inFlight_iff.mp hf
      obtain ⟨y, hy, -⟩ := (hs.unit u hu).window
      rw [hw] at hy
      cases hy
    rw [hx.window h hf, hw] at hv
    cases hv
  | some w =>
    obtain ⟨y, hy, hst⟩ := hx.stands hs hw
    rw [hv] at hy
    cases hy
    exact ⟨w, rfl, hst⟩

theorem Reissued.head {c : ChannelId} {st : WindowState} (h : HeadIs s c st) : HeadIs t c st := by
  intro x hxh
  rw [(hx.fields c).1] at hxh
  obtain ⟨w, hw, hst⟩ := h x hxh
  obtain ⟨v, hv, hvs, -⟩ := hx.stands hs hw
  exact ⟨v, hv, hvs.trans hst⟩

theorem Reissued.channelFits (c : ChannelId) : ChannelFits t c := by
  have fits := hs.channel c
  obtain ⟨hchain, howner, hstate, hdis, hstall⟩ := hx.fields c
  constructor
  case nodup => rw [hchain]; exact fits.nodup
  case members =>
    intro h hm
    rw [hchain] at hm
    obtain ⟨w, hw, hon, hwc, hown, hhead⟩ := fits.members h hm
    obtain ⟨v, hv, hst, ho, hvc⟩ := hx.stands hs hw
    exact ⟨v, hv, by rw [hst]; exact hon, hvc.trans hwc, by rw [howner, ho]; exact hown,
      fun ha => by rw [hchain]; exact hhead (hst ▸ ha)⟩
  case sound =>
    obtain ⟨h1, h2, h3, h4, h5, h6, h7, h8⟩ := fits.sound
    by_cases hm : (s.channel c).state = .moving
    · rw [RecordSound, howner, hchain, hdis, hstall, hstate]
      exact ⟨h1, h2, h3, by simp [hm]⟩
    · rw [hx.channel c hm]
      exact ⟨h1, h2, h3, fun e => hx.head hs (h4 e), h5, fun e => (h6 e).imp_right (And.imp_left (hx.head hs)),
        fun e => (h7 e).imp_right (And.imp_left (hx.head hs)), fun e => hx.head hs (h8 e)⟩
  case domain =>
    intro d hd
    rw [howner] at hd
    rw [hx.domain, hchain, hstate, hdis]
    exact fits.domain d hd
  case disable =>
    rw [hdis, howner]
    intro h
    obtain ⟨d, hd, hp⟩ := fits.disable h
    exact ⟨d, hd, by rw [hx.port]; exact hp⟩
  case unowned =>
    intro hn
    rw [howner] at hn
    have hoff := (fits.sound.1 hn).1
    rw [hx.channel c (by simp [hoff])]
    exact fits.unowned hn
  case holder => rw [hstate, hx.holder]; exact fits.holder

theorem Reissued.windowFits {h : Handle} {v : Window} (hv : t.window h = some v) : WindowFits t h v := by
  obtain ⟨w, hw, hst, ho, hc⟩ := hx.stood hs hv
  have fits := hs.window h w hw
  refine ⟨fun hon => ?_, fun hd => by rw [hx.inFlight hs]; exact fits.draining (hst ▸ hd), ?_⟩
  · obtain ⟨c, hwc, hm⟩ := fits.chain (hst ▸ hon)
    exact ⟨c, hc.trans hwc, by rw [(hx.fields c).1]; exact hm⟩
  · rw [ho, hst, hx.domain]
    exact fits.domain

theorem Reissued.isSome : t.memory.record.isSome ↔ s.memory.record.isSome := by
  cases hu : s.memory.record with
  | none => simp [hx.none hu]
  | some u =>
    obtain ⟨w, hw, -, -, hrec, -⟩ := (hs.unit u hu).window
    obtain ⟨u', v, hu', -⟩ := hx.unit u w hu hw hrec
    simp [hu']

theorem Reissued.unitFits {u' : UnitRecord} (hu' : t.memory.record = some u') : UnitFits t u' := by
  cases hu : s.memory.record with
  | none =>
    rw [hx.none hu] at hu'
    cases hu'
  | some u =>
    obtain ⟨hholder, -, w, hw, hwc, hown, hrec, hst⟩ := hs.unit u hu
    obtain ⟨y, v, hy, hv, huc, huw, hcycle, hrec', hvs, hvo, hvc⟩ := hx.unit u w hu hw hrec
    rw [hu'] at hy
    cases hy
    obtain ⟨hchain, howner, -⟩ := hx.fields u.channel
    refine ⟨by rw [hx.holder, huc]; exact hholder, hcycle, v, by rw [huw]; exact hv, by rw [huc]; exact hvc.trans hwc,
      by rw [huc, howner, hvo]; exact hown, hrec', ?_⟩
    rw [huc, huw, hchain, hvs]
    exact hst.imp_right (And.imp_right (hx.head hs))

omit hs in
theorem Reissued.domainFits {d : DomainId} (fits : DomainFits s d) : DomainFits t d := by
  have hunits : t.unitsOf d = s.unitsOf d := unitsOf_congr fun c => by
    obtain ⟨-, howner, hstate, -⟩ := hx.fields c
    rw [howner, hstate]
  refine ⟨?_, ?_, ?_, ?_⟩ <;> rw [hx.domain d]
  · exact fits.closing
  · rw [hunits]
    exact fits.awaited
  · exact fits.slots
  · rw [hx.port]
    exact fits.command

theorem Reissued.portFits (d : DomainId) : PortFits t d := by
  have fits := hs.port d
  refine ⟨by rw [hx.port, hx.domain]; exact fits.opened, fun y hy => ?_⟩
  rw [hx.port] at hy
  have hh := fits.holds y hy
  have stays : ∀ h w, s.window h = some w → ∃ v, t.window h = some v ∧ v.state = w.state ∧ v.owner = w.owner :=
    fun h w hw => by
      obtain ⟨v, hv, hst, ho, -⟩ := hx.stands hs hw
      exact ⟨v, hv, hst, ho⟩
  have haw : t.noneAwaited = s.noneAwaited := noneAwaited_congr fun x => congrArg Domain.awaited (hx.domain x)
  cases y with
  | revoke h =>
    exact drainWait_congr (p := fun o => o == d || d == 0) (hx.inFlight hs h) (fun w hw _ _ => stays h w hw) hh
  | cut h n => exact drainWait_congr (p := fun o => o == d) (hx.inFlight hs h) (fun w hw _ _ => stays h w hw) hh
  | disable c =>
    obtain ⟨-, howner, -, hdis, -⟩ := hx.fields c
    rw [State.waitHolds, howner, hdis]
    exact hh
  | close n cs => rwa [State.waitHolds, haw]
  | masterClear n cs => rwa [State.waitHolds, haw]

theorem Structured.reissued : Structured t where
  supervisor := by rw [hx.domain]; exact hs.supervisor
  channel := hx.channelFits hs
  window := fun _ _ => hx.windowFits hs
  held := by rw [hx.holder, hx.isSome hs]; exact hs.held
  unit := fun _ => hx.unitFits hs
  domain := fun d => hx.domainFits (hs.domain d)
  port := hx.portFits hs

end

/-! ## The unit in flight is gone -/

/-- The command waits on the unit, on its window or on its channel (R97). -/
def WaitsOn (u : UnitRecord) : Waiting → Prop
  | .revoke h => h = u.window
  | .cut h _ => h = u.window
  | .disable c => c = u.channel
  | .close _ _ => False
  | .masterClear _ _ => False

/-- What a completed port shows: the commands that waited on the unit wait no more. -/
theorem portAtEnd_waiting {p : Port} {u : UnitRecord} {final : Word} {x : Waiting} :
    (portAtEnd p u final).waiting = some x ↔ p.waiting = some x ∧ ¬ WaitsOn u x := by
  unfold portAtEnd
  cases hp : p.waiting with
  | none => simp [hp]
  | some y =>
    cases y with
    | revoke h =>
      by_cases hh : h = u.window
      · subst hh
        simp only [Option.some.injEq, if_true, reduceCtorEq, false_iff, not_and, not_not]
        rintro rfl
        rfl
      · simp only [Option.some.injEq, Waiting.revoke.injEq, hh, reduceCtorEq, if_false, hp, iff_self_and]
        rintro rfl
        exact hh
    | cut h n =>
      by_cases hh : h = u.window
      · subst hh
        simp only [Option.some.injEq, if_true, reduceCtorEq, if_false, false_iff, not_and, not_not]
        rintro rfl
        rfl
      · simp only [Option.some.injEq, hh, reduceCtorEq, if_false, hp, iff_self_and]
        rintro rfl
        exact hh
    | disable c =>
      by_cases hh : c = u.channel
      · subst hh
        simp only [Option.some.injEq, if_true, reduceCtorEq, if_false, false_iff, not_and, not_not]
        rintro rfl
        rfl
      · simp only [Option.some.injEq, Waiting.disable.injEq, hh, reduceCtorEq, if_false, hp, iff_self_and]
        rintro rfl
        exact hh
    | close n cs =>
      simp only [Option.some.injEq, reduceCtorEq, if_false, hp, iff_self_and]
      rintro rfl
      exact id
    | masterClear n cs =>
      simp only [Option.some.injEq, reduceCtorEq, if_false, hp, iff_self_and]
      rintro rfl
      exact id

/-- The unit `u`, of window `w`, has ended: the port is free, its channel moves no more and has no disable pending, and no
command waits on it. -/
structure UnitGone (s t : State) (u : UnitRecord) (w : Window) : Prop where
  holder : t.arbiter.holder = none
  record : t.memory.record = none
  domain : ∀ d, t.domain d = s.domain d
  others : ∀ c, c ≠ u.channel → t.channel c = s.channel c
  chain : ChainChange s t u.channel
  moved : (t.channel u.channel).state ≠ .moving
  disable : (t.channel u.channel).disablePending = false
  sound : RecordSound (t.channel u.channel) (HeadIs t u.channel)
  window : ∀ x, x ∉ (s.channel u.channel).chain → x ≠ u.window → t.window x = s.window x
  ended : u.window ∉ (s.channel u.channel).chain → ∀ v, t.window u.window = some v →
    v.owner = w.owner ∧ v.state.onChain = false ∧ v.state ≠ .draining
  port : ∀ d x, (t.port d).waiting = some x ↔ (s.port d).waiting = some x ∧ ¬ WaitsOn u x

section
variable {s t : State} {u : UnitRecord} {w : Window} (hs : Structured s) (hu : s.memory.record = some u)
  (hw : s.window u.window = some w) (hclear : (s.domain w.owner).clearing = false)

include hs hu hw in
/-- What the structure says of the unit in flight and its window. -/
theorem Structured.unitWindow : UnitWindow s u w := by
  obtain ⟨v, hv, hwin⟩ := (hs.unit u hu).window
  rw [hw] at hv
  cases hv
  exact hwin

variable (hx : UnitGone s t u w)
include hs hu hw hx

theorem UnitGone.outside : Outside (· = u.channel) s t where
  channel := hx.others
  domain := fun _ _ d _ => by rw [KeepsDomain, hx.domain]; exact ⟨id, id⟩
  holder := fun c hc => by
    rw [hx.holder, (hs.unit u hu).holder]
    simpa using fun e => hc e.symm
  disable := fun c hc d hd => (hx.port d _).mpr ⟨hd, hc⟩
  window := fun h y c hy hon hyc hc => by
    refine ⟨y, (hx.window h (fun hm => ?_) fun e => ?_).trans hy, .refl y⟩
    · have := (hs.member hm hy).2.1
      rw [hyc] at this
      exact hc (Option.some.inj this)
    · rw [e, hw] at hy
      cases hy
      have := (hs.unitWindow hu hw).1
      rw [hyc] at this
      exact hc (Option.some.inj this)

include hclear

omit hs hu hw hclear in
theorem UnitGone.keepsDomain (d : DomainId) : KeepsDomain s t d := by
  rw [KeepsDomain, hx.domain]
  exact ⟨id, id⟩

theorem UnitGone.channelFits : ChannelFits t u.channel := by
  obtain ⟨-, hown, -⟩ := hs.unitWindow hu hw
  refine ⟨hx.chain.nodup hs, hx.chain.members hs, hx.sound, fun d hd => ?_, fun h => by simp [hx.disable] at h,
    fun h => by simp [hx.chain.owner, hown] at h, by simp [hx.moved, hx.holder]⟩
  rw [hx.chain.owner, hown] at hd
  cases hd
  rw [hx.domain]
  exact ⟨(hs.window _ w hw).domain.1, fun h => by simp [hclear] at h⟩

theorem UnitGone.window_cases {h : Handle} {v : Window} (hv : t.window h = some v) :
    KeptOutside (· = u.channel) s t h v ∨ WindowFits t h v := by
  have hkeeps := hx.keepsDomain
  by_cases hm : h ∈ (s.channel u.channel).chain
  · exact .inr (hx.chain.windowFits hs hkeeps hm hv)
  · by_cases hh : h = u.window
    · subst hh
      obtain ⟨ho, hoff, hdr⟩ := hx.ended hm v hv
      refine .inr ⟨fun h => by simp [hoff] at h, fun h => absurd h hdr, ?_⟩
      rw [ho, hx.domain]
      exact ⟨(hs.window _ w hw).domain.1, fun h => by simp [hclear] at h⟩
    · rw [hx.window h hm hh] at hv
      refine .inl ⟨v, hv, .refl v, hkeeps _, fun hd => ?_, fun hon c hvc hc => hm ?_⟩
      · exact absurd ((inFlight_unit hu).mp ((hs.window h v hv).draining hd)) hh
      · subst hc
        exact hs.mem_chain hv hon hvc

theorem UnitGone.domainFits (d : DomainId) : DomainFits t d := by
  obtain ⟨-, hown, -⟩ := hs.unitWindow hu hw
  have fits := hs.domain d
  refine ⟨?_, ?_, ?_, ?_⟩ <;> rw [hx.domain d]
  · exact fits.closing
  · rw [fits.awaited]
    split
    · next hc =>
      refine (unitsOf_congr fun c => ?_).symm
      by_cases huc : c = u.channel
      · subst huc
        have hne : (s.channel u.channel).owner ≠ some d := fun h => by
          rw [hown] at h
          cases h
          rw [hclear] at hc
          cases hc
        simp [hx.chain.owner, hne]
      · rw [hx.others c huc]
    · rfl
  · exact fits.slots
  · intro hc
    have hin := fits.command hc
    simp only [Port.inTeardown, Option.any_eq_true] at hin ⊢
    obtain ⟨y, hy, hty⟩ := hin
    refine ⟨y, (hx.port 0 y).mpr ⟨hy, fun hwaits => ?_⟩, hty⟩
    cases y with
    | close n cs => exact hwaits
    | masterClear n cs => exact hwaits
    | _ => cases hty

omit hw hclear in
theorem UnitGone.portFits (d : DomainId) : PortFits t d := by
  have haw : t.noneAwaited = s.noneAwaited := noneAwaited_congr fun x => congrArg Domain.awaited (hx.domain x)
  refine ⟨fun hb => ?_, fun y hy => ?_⟩
  · rw [hx.domain]
    refine (hs.port d).opened ?_
    obtain ⟨y, hy⟩ := Option.isSome_iff_exists.mp hb
    exact Option.isSome_iff_exists.mpr ⟨y, ((hx.port d y).mp hy).1⟩
  · obtain ⟨hsy, hnot⟩ := (hx.port d y).mp hy
    have hh := (hs.port d).holds y hsy
    cases y with
    | revoke h =>
      simp only [State.waitHolds, Bool.and_eq_true] at hh
      exact absurd ((inFlight_unit hu).mp hh.1) hnot
    | cut h n =>
      simp only [State.waitHolds, Bool.and_eq_true] at hh
      exact absurd ((inFlight_unit hu).mp hh.1) hnot
    | disable c =>
      rw [State.waitHolds, hx.others c hnot]
      exact hh
    | close n cs => rwa [State.waitHolds, haw]
    | masterClear n cs => rwa [State.waitHolds, haw]

theorem Structured.unitGone : Structured t :=
  hs.confined (hx.outside hs hu hw) (fun _ hc => hc ▸ hx.channelFits hs hu hw hclear)
    (fun _ _ hv => hx.window_cases hs hu hw hclear hv) (by rw [hx.domain]; exact hs.supervisor)
    (by rw [hx.holder, hx.record]; simp) (fun y hy => by rw [hx.record] at hy; cases hy)
    (hx.domainFits hs hu hw hclear) (hx.portFits hs hu)

end

end Sys2Proof.Machine

namespace Sys2Proof.Machine

/-! ## A unit that ends its grant keeps the structure -/

theorem yielded_fields (ch : Channel) :
    ch.yielded.chain = ch.chain ∧ ch.yielded.owner = ch.owner ∧ ch.yielded.state ≠ .moving := by
  unfold Channel.yielded
  split
  · exact ⟨rfl, rfl, by simp⟩
  · exact ⟨settled_chain _, settled_owner _, settled_not_moving _⟩

theorem yielded_disablePending (ch : Channel) : ch.yielded.disablePending = false := by
  unfold Channel.yielded
  split
  · rfl
  · next h => rw [settled_disablePending]; simpa using h

/-- A yielding channel is sound with an ACTIVE head (R58, R96). -/
theorem RecordSound.yielded {ch : Channel} {head : WindowState → Prop} (ho : ch.owner ≠ none) (hst : ch.stall = none)
    (hh : head .active) : RecordSound ch.yielded head := by
  unfold Channel.yielded
  split
  · refine ⟨fun h => absurd h ho, ?_, ?_, fun _ => hh, ?_⟩ <;> simp [hst]
  · next h => exact .settled ho (by simpa using h) hst fun _ => hh

section
variable {s m : State} {u : UnitRecord} {w : Window} (hs : Structured s) (hu : s.memory.record = some u)
  (hw : s.window u.window = some w) (hclear : (s.domain w.owner).clearing = false)

/-- The records of `m` are those of `s` after the outcome of the unit, its record gone. -/
structure UnitCounted (s m : State) (u : UnitRecord) : Prop where
  frame : Frame s m [.windows, .channels, .causes, .notices, .memory]
  record : m.memory.record = none
  others : ∀ c, c ≠ u.channel → m.channel c = s.channel c
  owner : (m.channel u.channel).owner = (s.channel u.channel).owner
  disable : (m.channel u.channel).disablePending = (s.channel u.channel).disablePending
  stall : (m.channel u.channel).stall = (s.channel u.channel).stall
  window : ∀ x, x ≠ u.window → m.window x = s.window x

include hs hu hw hclear

/-- A yield after an outcome. -/
theorem Structured.yielded (hm : UnitCounted s m u) (hx : ChainChange s (m.yielded u) u.channel)
    (hhead : HeadIs (m.yielded u) u.channel .active)
    (hended : u.window ∉ (s.channel u.channel).chain → ∀ v, (m.yielded u).window u.window = some v →
      v.owner = w.owner ∧ v.state.onChain = false ∧ v.state ≠ .draining) : Structured (m.yielded u) := by
  obtain ⟨-, hown, -⟩ := hs.unitWindow hu hw
  have hself : (m.yielded u).channel u.channel = (m.channel u.channel).yielded := by rw [yielded_channel, if_pos rfl]
  obtain ⟨hchain, -, hmoved⟩ := yielded_fields (m.channel u.channel)
  refine hs.unitGone hu hw hclear
    { holder := by rw [yielded_arbiter]
      record := by rw [yielded_memory, hm.record]
      domain := fun d => ((frame_yielded m u).same_domain (by simp) d).trans (hm.frame.same_domain (by simp) d)
      others := fun c hc => by rw [yielded_channel, if_neg hc, hm.others c hc]
      chain := hx
      moved := by rw [hself]; exact hmoved
      disable := by rw [hself]; exact yielded_disablePending _
      sound := ?_
      window := fun x hn hx' => ?_
      ended := hended
      port := fun d y => ?_ }
  · have hst := (hs.channel u.channel).sound.not_stalled (by simp [hs.moving_of_unit hu])
    rw [hself]
    exact .yielded (by simp [hm.owner, hown]) (hm.stall.trans hst) hhead
  · rw [yielded_window, if_neg, hm.window x hx']
    intro hh
    refine hn (hx.sub.subset ?_)
    rw [hself, hchain]
    exact List.mem_of_head? hh
  · rw [yielded_port, portAtEnd_waiting, hm.frame.same_port (by simp)]

end

section
variable {s : State} {u : UnitRecord} {f : Option Failure} {g : Window → Window} {off : Bool} {x : Option Cause}
  {k : Channel → Channel}

/-- What an outcome leaves of a channel record: its count and its soft request apart, everything. -/
def KeepsChannel (k : Channel → Channel) : Prop :=
  ∀ ch : Channel, (k ch).chain = ch.chain ∧ (k ch).owner = ch.owner ∧ (k ch).state = ch.state ∧
    (k ch).disablePending = ch.disablePending ∧ (k ch).stall = ch.stall

theorem keepsChannel_countedOk : KeepsChannel Channel.countedOk := fun _ => ⟨rfl, rfl, rfl, rfl, rfl⟩

theorem keepsChannel_countedFailed : KeepsChannel Channel.countedFailed := fun _ => ⟨rfl, rfl, rfl, rfl, rfl⟩

theorem outcome_channel (hk : KeepsChannel k) :
    (((s.recordGone u f).unitEnded u g off x k).channel u.channel).chain =
        (if off then (s.channel u.channel).chain.filter (fun y => y != u.window) else (s.channel u.channel).chain) ∧
      (((s.recordGone u f).unitEnded u g off x k).channel u.channel).owner = (s.channel u.channel).owner ∧
      (((s.recordGone u f).unitEnded u g off x k).channel u.channel).state = (s.channel u.channel).state ∧
      (((s.recordGone u f).unitEnded u g off x k).channel u.channel).disablePending =
        (s.channel u.channel).disablePending ∧
      (((s.recordGone u f).unitEnded u g off x k).channel u.channel).stall = (s.channel u.channel).stall := by
  rw [unitEnded_channel_self (s := s.recordGone u f) (ch := s.channel u.channel) rfl rfl]
  obtain ⟨h1, h2, h3, h4, h5⟩ := hk { s.channel u.channel with
    chain := if off then (s.channel u.channel).chain.filter (fun y => y != u.window) else (s.channel u.channel).chain }
  exact ⟨h1, h2, h3, h4, h5⟩

theorem outcome_window (y : Handle) :
    ((s.recordGone u f).unitEnded u g off x k).window y =
      if y = u.window then (s.window u.window).map g else s.window y := unitEnded_window _ _ _ _ _ _ y

theorem unitCounted_outcome (hk : KeepsChannel k) :
    UnitCounted s ((s.recordGone u f).unitEnded u g off x k) u := by
  obtain ⟨-, howner, -, hdis, hstall⟩ := outcome_channel (s := s) (u := u) (f := f) (g := g) (off := off) (x := x) hk
  have hf := frame_unitEnded (s.recordGone u f) u g off x k
  exact
    { frame := ((frame_recordGone s u f).mono (by simp)).trans (hf.mono (by simp))
      record := by rw [hf .memory (by simp)]; rfl
      others := fun c hc => by rw [unitEnded_channel, if_neg hc]; rfl
      owner := howner, disable := hdis, stall := hstall
      window := fun y hy => by rw [outcome_window, if_neg hy] }

variable {w : Window} (hs : Structured s) (hu : s.memory.record = some u) (hw : s.window u.window = some w)
  (hclear : (s.domain w.owner).clearing = false) (hk : KeepsChannel k)
include hs hu hw hclear hk

/-- The end of a DRAINING window's unit (R94 to R96). -/
theorem Structured.drainEnds (hst : w.state = .draining) (hg : (g w).owner = w.owner ∧ (g w).state.engaged = false) :
    Structured (((s.recordGone u f).unitEnded u g false x k).yielded u) := by
  obtain ⟨hgo, hge⟩ := hg
  obtain ⟨hoff, hdr⟩ := off_of_not_engaged hge
  obtain ⟨hchain, howner, -⟩ := outcome_channel (s := s) (u := u) (f := f) (g := g) (off := false) (x := x) hk
  simp only [Bool.false_eq_true, if_false] at hchain
  have hlinked : HeadIs s u.channel .linked := by
    obtain ⟨-, -, -, ⟨h, -⟩ | ⟨-, h⟩⟩ := hs.unitWindow hu hw
    · rw [hst] at h
      cases h
    · exact h
  have hn : u.window ∉ (s.channel u.channel).chain := hs.not_mem hw (by simp [hst, WindowState.onChain]) _
  obtain ⟨hyc, hyo, -⟩ := yielded_fields (((s.recordGone u f).unitEnded u g false x k).channel u.channel)
  have hself : (((s.recordGone u f).unitEnded u g false x k).yielded u).channel u.channel =
      (((s.recordGone u f).unitEnded u g false x k).channel u.channel).yielded := by rw [yielded_channel, if_pos rfl]
  have hchain' : ((((s.recordGone u f).unitEnded u g false x k).yielded u).channel u.channel).chain =
      (s.channel u.channel).chain := by rw [hself, hyc, hchain]
  have hwin : ∀ y ∈ (s.channel u.channel).chain, (((s.recordGone u f).unitEnded u g false x k).yielded u).window y =
      if (s.channel u.channel).chain.head? = some y then (s.window y).map asHead else s.window y := fun y hy => by
    have hyu : y ≠ u.window := fun e => hn (by rw [← e]; exact hy)
    rw [yielded_window, hchain, outcome_window, if_neg hyu]
  refine hs.yielded hu hw hclear (unitCounted_outcome hk)
    (.of_activated hchain' (by rw [hself, hyo, howner]) hwin) (fun y hy => ?_) fun _ v hv => ?_
  · rw [hchain'] at hy
    have hm := List.mem_of_head? hy
    obtain ⟨v, hv, hvs⟩ := hlinked y hy
    rw [Option.mem_def] at hy hv
    exact ⟨asHead v, by rw [Option.mem_def, hwin y hm, if_pos hy, hv]; rfl, asHead_of_linked hvs⟩
  · rw [yielded_window, hchain, if_neg fun h => hn (List.mem_of_head? h), outcome_window, if_pos rfl, hw] at hv
    cases hv
    exact ⟨hgo, hoff, hdr⟩

variable (hst : w.state = .active)
include hst

omit hclear hk in
theorem Structured.activeHead :
    (s.channel u.channel).owner = some w.owner ∧ (s.channel u.channel).chain.head? = some u.window := by
  obtain ⟨-, hown, -, ⟨-, h⟩ | ⟨h, -⟩⟩ := hs.unitWindow hu hw
  · exact ⟨hown, h⟩
  · rw [hst] at h
    cases h

/-- The ACTIVE head leaves its chain with its unit's end, and the port yields (R58, R79, R42). -/
theorem Structured.headLeaves (hg : (g w).owner = w.owner ∧ (g w).state.engaged = false) :
    Structured (((s.recordGone u f).unitEnded u g true x k).yielded u) := by
  obtain ⟨hgo, hge⟩ := hg
  obtain ⟨hoff, hdr⟩ := off_of_not_engaged hge
  obtain ⟨hchain, howner, -⟩ := outcome_channel (s := s) (u := u) (f := f) (g := g) (off := true) (x := x) hk
  rw [if_pos rfl] at hchain
  obtain ⟨-, hhead⟩ := hs.activeHead hu hw hst
  obtain ⟨hyc, hyo, -⟩ := yielded_fields (((s.recordGone u f).unitEnded u g true x k).channel u.channel)
  have hself : (((s.recordGone u f).unitEnded u g true x k).yielded u).channel u.channel =
      (((s.recordGone u f).unitEnded u g true x k).channel u.channel).yielded := by rw [yielded_channel, if_pos rfl]
  have hwin : ∀ y, y ≠ u.window → (((s.recordGone u f).unitEnded u g true x k).yielded u).window y =
      if ((s.channel u.channel).chain.filter fun y => y != u.window).head? = some y then (s.window y).map asHead
      else s.window y := fun y hy => by
    rw [yielded_window, hchain, outcome_window, if_neg hy]
  have hleft : ∀ v, (((s.recordGone u f).unitEnded u g true x k).yielded u).window u.window = some v →
      v = g w := fun v hv => by
    rw [yielded_window, hchain, if_neg fun h => by simpa using List.mem_of_head? h, outcome_window, if_pos rfl, hw] at hv
    cases hv
    rfl
  have hchain' : ((((s.recordGone u f).unitEnded u g true x k).yielded u).channel u.channel).chain =
      (s.channel u.channel).chain.filter fun y => y != u.window := by rw [hself, hyc, hchain]
  have hl : Leaves s (((s.recordGone u f).unitEnded u g true x k).yielded u) u.channel u.window :=
    { chain := hchain'
      owner := by rw [hself, hyo, howner]
      others := fun y _ hy => by
        rw [hwin y hy, hchain']
        split
        · next h => exact .inr ⟨h, rfl⟩
        · exact .inl rfl
      left := fun y v hy hv => by
        rw [hw] at hy
        cases hy
        rw [hleft v hv]
        exact ⟨hgo, hoff, fun h => absurd h hdr⟩ }
  refine hs.yielded hu hw hclear (unitCounted_outcome hk) hl.chainChange (hl.head_active hs (.inl hhead) fun y hy => ?_)
    fun hn => absurd (List.mem_of_head? hhead) hn
  have hm := (hl.mem.mp (List.mem_of_head? hy)).2
  rw [hchain'] at hy
  rw [hwin y hm, if_pos hy]

/-- The ACTIVE head stays with its unit's end, and the port yields (R58, R78). -/
theorem Structured.headStays (hg : (g w).owner = w.owner ∧ (g w).channel = w.channel ∧ (g w).state = .active) :
    Structured (((s.recordGone u f).unitEnded u g false x k).yielded u) := by
  obtain ⟨hgo, hgc, hgs⟩ := hg
  obtain ⟨hchain, howner, -⟩ := outcome_channel (s := s) (u := u) (f := f) (g := g) (off := false) (x := x) hk
  simp only [Bool.false_eq_true, if_false] at hchain
  obtain ⟨-, hhead⟩ := hs.activeHead hu hw hst
  obtain ⟨hyc, hyo, -⟩ := yielded_fields (((s.recordGone u f).unitEnded u g false x k).channel u.channel)
  have hself : (((s.recordGone u f).unitEnded u g false x k).yielded u).channel u.channel =
      (((s.recordGone u f).unitEnded u g false x k).channel u.channel).yielded := by rw [yielded_channel, if_pos rfl]
  have hchain' : ((((s.recordGone u f).unitEnded u g false x k).yielded u).channel u.channel).chain =
      (s.channel u.channel).chain := by rw [hself, hyc, hchain]
  have hunit : (((s.recordGone u f).unitEnded u g false x k).yielded u).window u.window = some (g w) := by
    rw [yielded_window, hchain, outcome_window, if_pos rfl, hw, Option.map_some, Option.map_some,
      asHead_of_not_linked (by simp [hgs]), ite_self]
  have hwin : ∀ y, y ≠ u.window → (((s.recordGone u f).unitEnded u g false x k).yielded u).window y = s.window y :=
    fun y hy => by
      rw [yielded_window, hchain, outcome_window, if_neg hy, if_neg]
      intro h
      exact hy (Option.some.inj ((h.symm.trans hhead)))
  refine hs.yielded hu hw hclear (unitCounted_outcome hk)
    { sub := by rw [hchain']
      head := fun y _ h => by rw [hchain']; exact h
      owner := by rw [hself, hyo, howner]
      inside := fun y _ v hv => ?_
      outside := fun y hy hn => absurd (hchain' ▸ hy) hn } (fun y hy => ?_) fun hn => absurd (List.mem_of_head? hhead) hn
  · by_cases hy : y = u.window
    · subst hy
      rw [hw] at hv
      cases hv
      exact ⟨g w, hunit, hgo, hgc, .inl (hgs.trans hst.symm)⟩
    · exact ⟨v, (hwin y hy).trans hv, rfl, rfl, .inl rfl⟩
  · rw [hchain'] at hy
    have hyu : y = u.window := Option.some.inj (hy.symm.trans hhead)
    subst hyu
    exact ⟨g w, hunit, hgs⟩

end

end Sys2Proof.Machine

namespace Sys2Proof.Machine

/-! ## The failure that stalls, and the unit that is followed by another -/

section
variable {s : State} {u : UnitRecord} {w : Window} (hs : Structured s) (hu : s.memory.record = some u)
  (hw : s.window u.window = some w) (hclear : (s.domain w.owner).clearing = false)
include hs hu hw hclear

/-- The head fails and its channel is STALLED (R37, R81). -/
theorem Structured.headStalls (hst : w.state = .active) (hdis : (s.channel u.channel).disablePending = false)
    (f : Option Failure) (fl : Failure) :
    Structured ((((s.recordGone u f).headLost u fl).updChannel u.channel fun ch =>
      ch.stalledBy u.window fl).setHolder none) := by
  generalize hm : (s.recordGone u f).headLost u fl = m
  have hcount : UnitCounted s m u := hm ▸ unitCounted_outcome keepsChannel_countedFailed
  have hchain : (m.channel u.channel).chain = (s.channel u.channel).chain.filter fun y => y != u.window := by
    rw [← hm]
    exact (outcome_channel keepsChannel_countedFailed).1
  have hunit : m.window u.window = some (w.failedWith fl) := by
    rw [← hm, State.headLost, outcome_window, if_pos rfl, hw]
    rfl
  generalize ht : (m.updChannel u.channel fun ch => ch.stalledBy u.window fl).setHolder none = t
  have hself : t.channel u.channel = (m.channel u.channel).stalledBy u.window fl := by rw [← ht]; simp
  have hwin : ∀ y, t.window y = m.window y := fun y => by rw [← ht]; rfl
  have hport : ∀ d, t.port d = s.port d := fun d => by
    rw [← ht]
    exact hcount.frame.same_port (by simp) d
  obtain ⟨hown, hhead⟩ := hs.activeHead hu hw hst
  have hl : Leaves s t u.channel u.window :=
    { chain := by rw [hself]; exact hchain
      owner := by rw [hself]; exact hcount.owner
      others := fun y _ hy => .inl ((hwin y).trans (hcount.window y hy))
      left := fun y v hy hv => by
        rw [hw] at hy
        rw [hwin, hunit] at hv
        cases hy
        cases hv
        exact ⟨rfl, rfl, fun h => nomatch h⟩ }
  have hlinked : HeadIs t u.channel .linked := hl.head_linked hs (.inl hhead) fun y hy =>
    (hwin y).trans (hcount.window y (hl.mem.mp hy).2)
  have hdis' : (t.channel u.channel).disablePending = false := by
    rw [hself]
    exact hcount.disable.trans hdis
  refine hs.unitGone hu hw hclear
    { holder := by rw [← ht]; rfl
      record := by rw [← ht]; exact hcount.record
      domain := fun d => by rw [← ht]; exact hcount.frame.same_domain (by simp) d
      others := fun c hc => by rw [← ht, ← hcount.others c hc]; simp [hc]
      chain := hl.chainChange
      moved := by rw [hself]; simp [Channel.stalledBy]
      disable := hdis'
      sound := ?_
      window := fun y _ hy => (hwin y).trans (hcount.window y hy)
      ended := fun hn => absurd (List.mem_of_head? hhead) hn
      port := fun d y => ?_ }
  · refine ⟨fun h => ?_, fun h => by simp [hdis'] at h, ?_, ?_, ?_, ?_, ?_, fun _ => hlinked⟩
    · rw [hl.owner, hown] at h
      cases h
    all_goals simp [hself, Channel.stalledBy]
  · rw [hport, iff_self_and]
    intro hy hwaits
    have hh := (hs.port d).holds y hy
    cases y with
    | revoke h => simp [State.waitHolds, show h = u.window from hwaits, hw, hst] at hh
    | cut h n => simp [State.waitHolds, show h = u.window from hwaits, hw, hst] at hh
    | disable c => simp [State.waitHolds, show c = u.channel from hwaits, hdis] at hh
    | close n cs => exact hwaits
    | masterClear n cs => exact hwaits

omit hclear in
/-- The channel goes on with a further unit of its head (R57). -/
theorem Structured.unitFollows (hst : w.state = .active) (hmore : w.exhausts = false) :
    Structured (((s.recordGone u none).headCounted u w).issue u.channel) := by
  obtain ⟨hwc, -, -, -⟩ := hs.unitWindow hu hw
  obtain ⟨-, hhead⟩ := hs.activeHead hu hw hst
  have hcounted : (s.recordGone u none).headCounted u w =
      (s.recordGone u none).unitEnded u Window.afterHeadOk false w.okCause Channel.countedOk := by
    rw [headCounted_eq, hmore]
    rfl
  generalize hm : (s.recordGone u none).headCounted u w = m at hcounted
  have hcount : UnitCounted s m u := hcounted ▸ unitCounted_outcome keepsChannel_countedOk
  obtain ⟨hchain, howner, hstate, hdis, hstall⟩ := outcome_channel (s := s) (u := u) (f := none) (g := Window.afterHeadOk)
    (off := false) (x := w.okCause) keepsChannel_countedOk
  simp only [Bool.false_eq_true, if_false] at hchain
  rw [← hcounted] at hchain howner hstate hdis hstall
  have hafter : w.afterHeadOk = w.counted := by simp [Window.afterHeadOk, hmore]
  have hunit : m.window u.window = some w.counted := by
    rw [hcounted, outcome_window, if_pos rfl, hw, Option.map_some, hafter]
  have hmem := issue_memory (s := m) (c := u.channel) (by rw [hchain]; exact hhead) hunit
  have hf := frame_issue m u.channel
  have hchan : ∀ c, (m.issue u.channel).channel c = m.channel c := hf.same_channel (by simp)
  refine hs.reissued
    { domain := fun d => (hf.same_domain (by simp) d).trans (hcount.frame.same_domain (by simp) d)
      port := fun d => (hf.same_port (by simp) d).trans (hcount.frame.same_port (by simp) d)
      holder := (congrArg Arbiter.holder (hf .arbiter (by simp))).trans
        (congrArg Arbiter.holder (hcount.frame .arbiter (by simp)))
      channel := fun c hc => ?_
      moving := fun c hc => ?_
      window := fun y hy => ?_
      none := fun hn => by rw [hu] at hn; cases hn
      unit := fun x v hx hv _ => ?_ }
  · rw [hchan, hcount.others c fun e => hc (e ▸ hs.moving_of_unit hu)]
  · rw [hchan]
    by_cases hcu : c = u.channel
    · subst hcu
      exact ⟨hchain, howner, hstate, hdis, hstall⟩
    · rw [hcount.others c hcu]
      exact ⟨rfl, rfl, rfl, rfl, rfl⟩
  · rw [hf.same_window (by simp), hcount.window y fun e => ?_]
    rw [e, (inFlight_unit hu).mpr rfl] at hy
    cases hy
  · rw [hu] at hx
    cases hx
    rw [hw] at hv
    cases hv
    exact ⟨unitFor u.channel u.window w.counted, w.counted, by rw [hmem], by rw [hf.same_window (by simp), hunit], rfl, rfl,
      fun h => absurd h (unitFor_not_busCycle _ _ _), recordOf_unitFor _ _ _, rfl, rfl, rfl⟩

omit hclear in
/-- The structure says of a unit of a torn-down domain what its end turns on. -/
theorem Structured.tornUnit (hc : (s.domain w.owner).clearing = true) : TornUnit s u w where
  ports := ⟨hs.supervisor, fun d => (hs.domain d).closing, fun d => (hs.port d).opened⟩
  holder := ⟨fun c => (hs.channel c).holder, fun y hy => (hs.unit y hy).holder⟩
  unit := ⟨hs.held, fun y hy => ⟨(hs.unit y hy).cycle, (hs.unit y hy).window⟩, fun h v hv => (hs.window h v hv).draining⟩
  teardown := ⟨fun h v hv => (hs.window h v hv).domain, fun c => (hs.channel c).domain, fun d => (hs.domain d).awaited,
    fun d => (hs.domain d).slots⟩
  record := hu
  window := hw
  clearing := hc

end

/-! ## The end of a torn-down domain's unit -/

section
variable {s : State} {u : UnitRecord} {w : Window} (hs : Structured s) (ht : TornUnit s u w)
include hs ht

/-- Only the unit's channel, and no command of a closing domain, waits on anything of a domain under teardown. -/
theorem TornUnit.no_wait {d : DomainId} {x : Waiting} (hd : d ≠ 0) (hx : (s.port d).waiting = some x) : False := by
  obtain ⟨hown, -, hdis⟩ := ht.channel
  have hh := (hs.port d).holds x hx
  have hopen : (s.domain d).state = .opened := (hs.port d).opened (by simp [Port.busy, hx])
  have hne : w.owner ≠ d := fun e => by
    have := ((hs.domain d).closing hd).mp (e ▸ ht.clearing)
    rw [hopen] at this
    cases this
  have drained : ∀ (h : Handle), s.inFlight h = true → (s.window h).any (fun v => v.state == .draining && v.owner == d) = true →
      False := fun h hf hv => by
    obtain rfl := (inFlight_unit ht.record).mp hf
    simp only [ht.window, Option.any_some, Bool.and_eq_true, beq_iff_eq] at hv
    exact hne hv.2
  cases x with
  | revoke h =>
    simp only [State.waitHolds, Bool.and_eq_true, beq_false_of_ne hd, Bool.or_false] at hh
    exact drained h hh.1 hh.2
  | cut h n =>
    simp only [State.waitHolds, Bool.and_eq_true] at hh
    exact drained h hh.1 hh.2
  | disable c =>
    simp only [State.waitHolds, Bool.and_eq_true, beq_iff_eq] at hh
    obtain ⟨-, hmov, -⟩ := (hs.channel c).sound
    obtain ⟨y, hy, rfl⟩ := hs.unit_of_moving (hmov hh.1)
    rw [ht.record] at hy
    cases hy
    rw [hdis] at hh
    exact absurd hh.1 (by simp)
  | close n cs => simp [State.waitHolds, hd] at hh
  | masterClear n cs => simp [State.waitHolds, hd] at hh

/-- The records when the teardown is complete: nothing waits, and no domain is under teardown (R101, R154, R157). -/
structure TornEnd (s t : State) (u : UnitRecord) : Prop where
  holder : t.arbiter.holder = none
  record : t.memory.record = none
  window : ∀ x, x ≠ u.window → t.window x = s.window x
  gone : t.window u.window = none
  channel : t.channel u.channel = (s.channel u.channel).released
  others : ∀ c, c ≠ u.channel → t.channel c = s.channel c
  same : ∀ d, (s.domain d).clearing = false → t.domain d = s.domain d
  ended : ∀ d, (s.domain d).clearing = true → (t.domain d).clearing = false ∧ (t.domain d).awaited = 0 ∧
    (t.domain d).state = if d = 0 then (s.domain d).state else .closed
  idle : ∀ d, (t.port d).waiting = none

omit hs ht in
theorem teardownDone_waiting {p : Port} (h : p.inTeardown = true) : p.teardownDone.waiting = none := by
  simp only [Port.inTeardown, Option.any_eq_true] at h
  obtain ⟨y, hy, hty⟩ := h
  unfold Port.teardownDone
  cases y with
  | close n cs => simp [hy, Port.completed]
  | masterClear n cs => simp [hy, Port.completed]
  | _ => cases hty

theorem TornUnit.ends (f : Option Failure) : TornEnd s ((s.recordGone u f).drainFreed u w).finishTeardown u := by
  generalize hb : (s.recordGone u f).drainFreed u w = b
  have hdom : ∀ d, b.domain d = (s.drainFreed u w).domain d := fun d => by
    rw [← hb, drainFreed_domain, drainFreed_domain]
    rfl
  have haw : ∀ d, (b.domain d).awaited = 0 := fun d => by rw [hdom, noneAwaited_iff.mp ht.noneAwaited]
  rw [finishTeardown_of_noneAwaited (noneAwaited_iff.mpr haw)]
  have hframe : Frame b (b.finishDomains.updPort 0 Port.teardownDone) [.domains, .ports] :=
    ((frame_finishDomains b).mono (by simp)).trans ((frame_updPort _ 0 _).mono (by simp))
  have hport : ∀ d, b.finishDomains.port d = s.port d := fun d => by
    rw [(frame_finishDomains b).same_port (by simp), ← hb]
    rfl
  have hfinished : ∀ d, (b.finishDomains.updPort 0 Port.teardownDone).domain d = finishedDomain d (b.domain d) := fun d => by
    rw [State.updPort_domain, finishDomains_domain]
  constructor
  case holder =>
    rw [congrArg Arbiter.holder (hframe .arbiter (by simp)), ← hb]
    rfl
  case record =>
    rw [congrArg MemoryPort.record (hframe .memory (by simp)), ← hb]
    rfl
  case window =>
    intro x hx
    rw [hframe.same_window (by simp), ← hb, drainFreed_window, if_neg hx]
    rfl
  case gone => rw [hframe.same_window (by simp), ← hb, drainFreed_window, if_pos rfl]
  case channel =>
    rw [hframe.same_channel (by simp), ← hb, drainFreed_channel, if_pos rfl]
    rfl
  case others =>
    intro c hc
    rw [hframe.same_channel (by simp), ← hb, drainFreed_channel, if_neg hc]
    rfl
  case same =>
    intro d hd
    rw [hfinished, hdom, ht.domain_other hd, finishedDomain_not_clearing hd]
  case ended =>
    intro d hd
    obtain ⟨hst, -, hcl⟩ := drainFreed_kept (s := s) (u := u) (w := w) d
    have hbc : (b.domain d).clearing = true := by rw [hdom, hcl, hd]
    rw [hfinished]
    by_cases h0 : d = 0
    · subst h0
      rw [finishedDomain_supervisor hbc]
      exact ⟨rfl, haw 0, by rw [if_pos rfl, ← hst, ← hdom]⟩
    · rw [finishedDomain_closes hbc h0]
      exact ⟨rfl, haw d, (if_neg h0).symm⟩
  case idle =>
    intro d
    rw [State.updPort_port]
    split
    · rw [hport]
      exact teardownDone_waiting ((hs.domain w.owner).command ht.clearing)
    · next hd =>
      rw [hport]
      cases hp : (s.port d).waiting with
      | none => rfl
      | some y => exact (ht.no_wait hs hd hp).elim

/-- The other channels belong to domains under no teardown. -/
theorem TornUnit.other_owner {c : ChannelId} (hc : c ≠ u.channel) {d : DomainId} (hd : (s.channel c).owner = some d) :
    (s.domain d).clearing = false := by
  by_contra hcl
  obtain ⟨y, hy, rfl⟩ := hs.unit_of_moving (((hs.channel c).domain d hd).2 (by simpa using hcl)).1
  rw [ht.record] at hy
  cases hy
  exact hc rfl

theorem TornEnd.outside {t : State} (he : TornEnd s t u) : Outside (· = u.channel) s t where
  channel := he.others
  domain := fun c hc d hd => by
    rw [KeepsDomain, he.same d (ht.other_owner hs hc hd)]
    exact ⟨id, id⟩
  holder := fun c hc => by
    rw [he.holder, (hs.unit u ht.record).holder]
    simpa using fun e => hc e.symm
  disable := fun c hc d hd => by
    have hh := (hs.port d).holds _ hd
    simp only [State.waitHolds, Bool.and_eq_true] at hh
    obtain ⟨-, hmov, -⟩ := (hs.channel c).sound
    obtain ⟨y, hy, rfl⟩ := hs.unit_of_moving (hmov hh.1)
    rw [ht.record] at hy
    cases hy
    exact absurd rfl hc
  window := fun h v c hv hon hvc hc => by
    refine ⟨v, (he.window h fun e => ?_).trans hv, .refl v⟩
    rw [e, ht.window] at hv
    cases hv
    have := (hs.unitWindow ht.record ht.window).1
    rw [hvc] at this
    exact hc (Option.some.inj this)

omit hs ht in
theorem TornEnd.not_clearing {t : State} (he : TornEnd s t u) (d : DomainId) : (t.domain d).clearing = false := by
  cases hd : (s.domain d).clearing
  · rw [he.same d hd, hd]
  · exact (he.ended d hd).1

theorem TornEnd.structured {t : State} (he : TornEnd s t u) : Structured t := by
  obtain ⟨hown, -, -⟩ := ht.channel
  have hnone := he.not_clearing
  refine hs.confined (he.outside hs ht) (fun c hc => ?_) (fun h v hv => .inl ?_) ?_ (by rw [he.holder, he.record]; simp)
    (fun y hy => by rw [he.record] at hy; cases hy) (fun d => ?_)
    fun d => ⟨fun h => by simp [Port.busy, he.idle d] at h, fun y hy => by rw [he.idle d] at hy; cases hy⟩
  · subst hc
    exact .of_released he.channel (by rw [he.holder]; simp)
  · have hne : h ≠ u.window := fun e => by
      rw [e, he.gone] at hv
      cases hv
    rw [he.window h hne] at hv
    have hclear : (s.domain v.owner).clearing = false := by
      by_contra hc
      exact hne (ht.eq_window hv (by simpa using hc))
    refine ⟨v, hv, .refl v, by rw [KeepsDomain, he.same _ hclear]; exact ⟨id, id⟩, fun hd => ?_, fun hon c hvc hc => ?_⟩
    · exact absurd ((inFlight_unit ht.record).mp ((hs.window h v hv).draining hd)) hne
    · subst hc
      have hm := hs.mem_chain hv hon hvc
      rw [(((hs.channel u.channel).domain _ hown).2 ht.clearing).2.1] at hm
      cases hm
  · cases hd : (s.domain 0).clearing
    · rw [he.same 0 hd]
      exact hs.supervisor
    · exact (he.ended 0 hd).2.2.trans ((if_pos rfl).trans hs.supervisor)
  · refine ⟨fun h0 => ?_, ?_, fun _ h => by simp [hnone d] at h, fun h => by simp [hnone d] at h⟩ <;> rw [hnone d] <;>
      cases hd : (s.domain d).clearing
    · rw [he.same d hd, ← (hs.domain d).closing h0, hd]
    · rw [(he.ended d hd).2.2, if_neg h0]
      simp
    · rw [he.same d hd, (hs.domain d).awaited, hd]
      rfl
    · exact (he.ended d hd).2.1

end

end Sys2Proof.Machine

namespace Sys2Proof.Machine

/-! ## Every end of a unit -/

theorem afterDrainOk_off (w : Window) : w.afterDrainOk.owner = w.owner ∧ w.afterDrainOk.state.engaged = false := by
  unfold Window.afterDrainOk
  split
  · split <;> exact ⟨rfl, rfl⟩
  · exact ⟨rfl, rfl⟩

theorem failedWith_off (f : Failure) (w : Window) :
    (w.failedWith f).owner = w.owner ∧ (w.failedWith f).state.engaged = false := ⟨rfl, rfl⟩

theorem afterHeadOk_off {w : Window} (h : (w.exhausts && !w.reload) = true) :
    w.afterHeadOk.owner = w.owner ∧ w.afterHeadOk.state.engaged = false := by
  simp only [Bool.and_eq_true, Bool.not_eq_true'] at h
  rw [Window.afterHeadOk, if_pos h.1, if_neg (by simp [h.2])]
  exact ⟨rfl, rfl⟩

theorem afterHeadOk_on {w : Window} (h : (w.exhausts && !w.reload) = false) :
    w.afterHeadOk.owner = w.owner ∧ w.afterHeadOk.channel = w.channel ∧ w.afterHeadOk.state = w.state := by
  unfold Window.afterHeadOk
  split
  · next he =>
    rw [he, Bool.true_and, Bool.not_eq_false'] at h
    rw [if_pos h]
    exact ⟨rfl, rfl, rfl⟩
  · exact ⟨rfl, rfl, rfl⟩

/-- The structure with no grant due, and RESETN as it was. -/
def EventKeeps (s t : State) : Prop := Upheld t ∧ t.resetAsserted = s.resetAsserted

theorem EventKeeps.of_grantDecision {s t : State} {l : List Block} (ht : Structured t) (hf : Frame s t l)
    (hl : Block.resetLine ∉ l) : EventKeeps s t.grantDecision :=
  ⟨.of_grantDecision ht, (State.grantDecision_resetAsserted t).trans (hf .resetLine hl)⟩

theorem frame_finishTeardown (s : State) : Frame s s.finishTeardown [.domains, .ports] := by
  unfold State.finishTeardown
  split
  · exact ((frame_finishDomains s).mono (by simp)).trans ((frame_updPort _ 0 _).mono (by simp))
  · exact Frame.refl _ _

section
variable {s : State} {u : UnitRecord} {w : Window} (hs : Structured s) (hu : s.memory.record = some u)
  (hw : s.window u.window = some w)

/-- An outcome's change before the grant decision. -/
theorem frame_outcome (f : Option Failure) (g : Window → Window) (off : Bool) (x : Option Cause) (k : Channel → Channel) :
    Frame s (((s.recordGone u f).unitEnded u g off x k).yielded u)
      [.windows, .channels, .causes, .notices, .memory, .arbiter, .ports] :=
  (((frame_recordGone s u f).mono (by simp)).trans ((frame_unitEnded _ u g off x k).mono (by simp))).trans
    ((frame_yielded _ u).mono (by simp))

include hs hu hw

theorem Structured.tornDownEnd (hc : (s.domain w.owner).clearing = true) (f : Option Failure) :
    EventKeeps s ((s.recordGone u f).tornDownEnd u w) := by
  have ht := hs.tornUnit hu hw hc
  rw [tornDownEnd_eq]
  refine .of_grantDecision (l := [.memory, .windows, .causes, .notices, .domains, .channels, .arbiter, .ports])
    ((ht.ends hs f).structured hs ht) ?_ (by simp)
  exact (((frame_recordGone s u f).mono (by simp)).trans (frame_drainFreed.mono (by simp))).trans
    ((frame_finishTeardown _).mono (by simp))

omit hw in
theorem Structured.unitOk : EventKeeps s (s.unitOk u) := by
  obtain ⟨w, hw, -, -, -, hst⟩ := (hs.unit u hu).window
  cases hc : (s.domain w.owner).clearing
  case true =>
    rw [unitOk_clearing hw hc]
    exact hs.tornDownEnd hu hw hc none
  case false =>
    obtain ⟨ha, -⟩ | ⟨hd, -⟩ := hst
    · rw [unitOk_active hw hc ha, setRecord_none_eq s u, headOk_eq]
      split
      · next hgo =>
        have hmore : w.exhausts = false := by
          simp only [goesOn, Bool.and_eq_true, Bool.not_eq_true'] at hgo
          obtain ⟨⟨⟨⟨⟨⟨-, -⟩, h⟩, -⟩, -⟩, -⟩, -⟩ := hgo
          exact h
        have hf : Frame s (((s.recordGone u none).headCounted u w).issue u.channel)
            [.windows, .channels, .causes, .notices, .memory] :=
          (((frame_recordGone s u none).mono (by simp)).trans ((frame_unitEnded _ u _ _ _ _).mono (by simp))).trans
            ((frame_issue _ _).mono (by simp))
        refine ⟨⟨hs.unitFollows hu hw ha hmore, fun hfree => ?_⟩, hf .resetLine (by simp)⟩
        rw [congrArg Arbiter.holder (hf .arbiter (by simp)), (hs.unit u hu).holder] at hfree
        cases hfree
      · rw [yield_eq, headCounted_eq]
        refine .of_grantDecision ?_ (frame_outcome none _ _ _ _) (by simp)
        cases hoff : w.exhausts && !w.reload
        · obtain ⟨ho, hch, hst⟩ := afterHeadOk_on hoff
          exact hs.headStays hu hw hc keepsChannel_countedOk ha ⟨ho, hch, hst.trans ha⟩
        · exact hs.headLeaves hu hw hc keepsChannel_countedOk ha (afterHeadOk_off hoff)
    · rw [unitOk_draining hw hc hd, setRecord_none_eq s u, drainOk_eq, yield_eq]
      exact .of_grantDecision (hs.drainEnds hu hw hc keepsChannel_countedOk hd (afterDrainOk_off w))
        (frame_outcome none _ _ _ _) (by simp)

omit hw in
/-- A bus error or a timeout, the stale cycle flag set as it leaves it (R81, R83). -/
theorem Structured.unitFailed (f : Failure) :
    EventKeeps s ((s.setStale (staleAfter s u (some f))).unitFailed u f) := by
  obtain ⟨w, hw, -, -, -, hst⟩ := (hs.unit u hu).window
  cases hc : (s.domain w.owner).clearing
  case true =>
    rw [unitFailed_clearing (s := s.setStale (staleAfter s u (some f))) hw f hc]
    exact hs.tornDownEnd hu hw hc (some f)
  case false =>
    obtain ⟨ha, -⟩ | ⟨hd, -⟩ := hst
    · rw [unitFailed_active (s := s.setStale (staleAfter s u (some f))) hw f hc ha, headFailed_eq]
      change EventKeeps s (if (((s.recordGone u (some f)).headLost u f).channel u.channel).disablePending then
        ((s.recordGone u (some f)).headLost u f).yield u else ((((s.recordGone u (some f)).headLost u f).updChannel
          u.channel fun ch => ch.stalledBy u.window f).setHolder none).grantDecision)
      split
      · rw [yield_eq]
        exact .of_grantDecision (hs.headLeaves hu hw hc keepsChannel_countedFailed ha (failedWith_off f w))
          (frame_outcome (some f) _ _ _ _) (by simp)
      · next hdis =>
        have hdis' : (s.channel u.channel).disablePending = false := by
          obtain ⟨-, -, -, hd, -⟩ := outcome_channel (s := s) (u := u) (f := some f) (g := Window.failedWith f) (off := true)
            (x := some f.cause) keepsChannel_countedFailed
          rw [Bool.not_eq_true] at hdis
          exact hd.symm.trans hdis
        refine .of_grantDecision (l := [.windows, .channels, .causes, .notices, .memory, .arbiter])
          (hs.headStalls hu hw hc ha hdis' (some f) f) ?_ (by simp)
        exact ((((frame_recordGone s u (some f)).mono (by simp)).trans ((frame_unitEnded _ u _ _ _ _).mono (by simp))).trans
          ((Frame.updChannel _ u.channel _).mono (by simp))).trans ((Frame.setHolder _ none).mono (by simp))
    · rw [unitFailed_draining (s := s.setStale (staleAfter s u (some f))) hw f hc hd, drainFailed_eq, yield_eq]
      exact .of_grantDecision (hs.drainEnds hu hw hc keepsChannel_countedFailed hd (failedWith_off f w))
        (frame_outcome (some f) _ _ _ _) (by simp)

omit hw in
theorem Structured.busError : EventKeeps s (s.unitFailed u .busError) := by
  have hstale : s.setStale (staleAfter s u (some .busError)) = s := by simp [staleAfter]; rfl
  have h := hs.unitFailed hu .busError
  rwa [hstale] at h

omit hw in
theorem Structured.timeout : EventKeeps s (s.timeout u) := by
  have ht : s.timeout u = (s.setStale (staleAfter s u (some .unitTimeout))).unitFailed u .unitTimeout := by
    by_cases hp : u.phase = .busCycle <;> simp [State.timeout, staleAfter, hp]
    rfl
  rw [ht]
  exact hs.unitFailed hu .unitTimeout

end

end Sys2Proof.Machine

namespace Sys2Proof.Machine

/-! ## The lease countdown keeps the structure (R107, R109) -/

theorem frame_foldl_raise (hs : List Handle) (x : Cause) (s : State) :
    Frame s (hs.foldl (fun t h => t.raise h x) s) [.causes, .notices] := by
  induction hs generalizing s with
  | nil => exact Frame.refl s _
  | cons h hs ih => exact (Frame.raise s h x).trans (ih _)

theorem frame_mapChannels (s : State) (f : ChannelId → Channel → Channel) : Frame s (s.mapChannels f) [.channels] := by
  intro b hb
  cases b <;> first | rfl | exact absurd (by simp) hb

theorem frame_expire (s : State) (hs : List Handle) : Frame s (s.expire hs) [.windows, .causes, .channels, .notices] :=
  (((Frame.mapWindows s _).mono (by simp)).trans ((frame_mapChannels _ _).mono (by simp))).trans
    ((frame_foldl_raise hs _ _).mono (by simp))

/-- A channel after the expiry of the windows `l` (R109). -/
def Channel.afterExpiry (l : List Handle) (ch : Channel) : Channel :=
  match ch.chain with
  | [] => ch
  | h :: _ => if l.contains h && ch.waitsForService then ch.expiredHead h else ch

theorem expire_channel (s : State) (l : List Handle) (c : ChannelId) :
    (s.expire l).channel c = (s.channel c).afterExpiry l := by
  unfold State.expire
  rw [(frame_foldl_raise l _ _).same_channel (by simp), State.mapChannels_channel, State.mapWindows_channel]
  rfl

/-- The window is the ACTIVE head of a channel that waits for service (R106). -/
def HeadWaits (s : State) (h : Handle) : Prop :=
  ∃ w c, s.window h = some w ∧ w.state = .active ∧ w.channel = some c ∧
    ((s.channel c).state = .armed ∨ (s.channel c).state = .pending)

theorem headWaits_of_expires {s : State} {h : Handle} (he : s.expires h = true) : HeadWaits s h := by
  obtain ⟨w, hw, ⟨hst, -, c, hc, hch, -⟩, -⟩ := expires_iff.mp he
  exact ⟨w, c, hw, hst, hc, hch⟩

/-- The head of the channel is among the windows `l` that expire. -/
def Expiring (l : List Handle) (s : State) (c : ChannelId) : Prop :=
  ∃ h ∈ l, (s.channel c).chain.head? = some h ∧ ((s.channel c).state = .armed ∨ (s.channel c).state = .pending)

theorem waitsForService_iff {ch : Channel} : ch.waitsForService = true ↔ ch.state = .armed ∨ ch.state = .pending := by
  simp [Channel.waitsForService]

theorem expire_channel_of_head {s : State} {l : List Handle} {c : ChannelId} {h : Handle} (hl : h ∈ l)
    (hh : (s.channel c).chain.head? = some h) (hst : (s.channel c).state = .armed ∨ (s.channel c).state = .pending) :
    (s.expire l).channel c = (s.channel c).expiredHead h := by
  rw [expire_channel, Channel.afterExpiry]
  cases hc : (s.channel c).chain with
  | nil => simp [hc] at hh
  | cons x xs =>
    rw [hc, List.head?_cons, Option.some.injEq] at hh
    subst hh
    simp [hl, waitsForService_iff.mpr hst]

theorem expire_channel_other {s : State} {l : List Handle} {c : ChannelId} (hc : ¬ Expiring l s c) :
    (s.expire l).channel c = s.channel c := by
  rw [expire_channel, Channel.afterExpiry]
  cases hch : (s.channel c).chain with
  | nil => rfl
  | cons x xs =>
    dsimp only
    rw [if_neg]
    simp only [Bool.and_eq_true, List.contains_iff_mem, waitsForService_iff]
    exact fun h => hc ⟨x, h.1, by rw [hch]; rfl, h.2⟩

section
variable {s : State} (hs : Structured s) {l : List Handle} (hl : ∀ h ∈ l, HeadWaits s h)
include hs hl

/-- A window that expires heads its channel. -/
theorem Structured.expiring {h : Handle} (hm : h ∈ l) {w : Window} (hw : s.window h = some w) :
    w.state = .active ∧ ∃ c, w.channel = some c ∧ (s.channel c).chain.head? = some h ∧ Expiring l s c := by
  obtain ⟨v, c, hv, hst, hc, hch⟩ := hl h hm
  rw [hw] at hv
  cases hv
  obtain ⟨-, -, -, hhead⟩ := hs.member (hs.mem_chain hw (by simp [hst, WindowState.onChain]) hc) hw
  exact ⟨hst, c, hc, hhead hst, h, hm, hhead hst, hch⟩

/-- A chain loses its expiring head. -/
theorem Structured.expires_leaves {c : ChannelId} {h : Handle} (hm : h ∈ l)
    (hh : (s.channel c).chain.head? = some h) (hst : (s.channel c).state = .armed ∨ (s.channel c).state = .pending) :
    Leaves s (s.expire l) c h where
  chain := by rw [expire_channel_of_head hm hh hst]; rfl
  owner := by rw [expire_channel_of_head hm hh hst]; rfl
  others := fun x hx hne => .inl <| by
    obtain ⟨w, hw, -, hwc, -⟩ := (hs.channel c).members x hx
    rw [expire_window, if_neg]
    intro hxl
    obtain ⟨-, c', hc', hhead, -⟩ := hs.expiring hl hxl hw
    rw [hwc] at hc'
    cases hc'
    exact hne (Option.some.inj (hhead.symm.trans hh))
  left := fun w v hw hv => by
    rw [expire_window, if_pos hm, hw] at hv
    cases hv
    exact ⟨rfl, rfl, fun h => nomatch h⟩

theorem Structured.expire : Structured (s.expire l) := by
  have hf := frame_expire s l
  have hloc : Local (Expiring l s) s (s.expire l) := .of_frame hf (fun c hc => expire_channel_other hc)
    (fun c hc hmov => by
      obtain ⟨h, -, -, hst⟩ := hc
      rcases hst with hst | hst <;> rw [hst] at hmov <;> cases hmov)
    fun h w hw _ hout => by
      refine ⟨w, ?_, .refl w⟩
      rw [expire_window, if_neg, hw]
      intro hm
      obtain ⟨hst, c, hc, -, hexp⟩ := hs.expiring hl hm hw
      exact hout.elim (fun h => by rw [hst] at h; cases h) fun h => h c hc hexp
  refine hs.local hloc (fun c hc => ?_) (fun x v hv => ?_) fun u hu hc => ?_
  · obtain ⟨h, hm, hh, hst⟩ := hc
    have fits := hs.channel c
    have hleave := hs.expires_leaves hl hm hh hst
    have hself := expire_channel_of_head hm hh hst
    have hmov : (s.channel c).state ≠ .moving := by rcases hst with h | h <;> simp [h]
    have hown : (s.channel c).owner ≠ none := fun hn => by
      have := (fits.sound.1 hn).2
      simp [this] at hh
    have hdis : ((s.expire l).channel c).disablePending = false := by
      rw [hself]
      exact fits.sound.not_disabled hmov
    have hlinked : HeadIs (s.expire l) c .linked := hleave.head_linked hs (.inl hh) fun x hx => by
      obtain ⟨hmx, hne⟩ := hleave.mem.mp hx
      obtain h | ⟨hx', -⟩ := hleave.others x hmx hne
      · exact h
      · rw [expire_window, if_neg]
        intro hxl
        obtain ⟨w, hw, -, hwc, -⟩ := fits.members x hmx
        obtain ⟨-, c', hc', hhead, -⟩ := hs.expiring hl hxl hw
        rw [hwc] at hc'
        cases hc'
        exact hne (Option.some.inj (hhead.symm.trans hh))
    refine ⟨hleave.chainChange.nodup hs, hleave.chainChange.members hs, ?_, fun d hd => ?_, fun h => by simp [hdis] at h,
      fun h => absurd (hleave.owner.symm.trans h) hown, ?_⟩
    · refine ⟨fun h => absurd (hleave.owner.symm.trans h) hown, fun h => by simp [hdis] at h, ?_, ?_, ?_, ?_, ?_,
        fun _ => hlinked⟩ <;> simp [hself, Channel.expiredHead]
    · rw [hleave.owner] at hd
      obtain ⟨hclosed, hclear⟩ := fits.domain d hd
      exact ⟨(hloc.keepsDomain d).1 hclosed, fun h => absurd (hclear ((hloc.keepsDomain d).2 h)).1 hmov⟩
    · rw [hloc.holder, ← fits.holder]
      exact iff_of_false (by simp [hself, Channel.expiredHead]) hmov
  · by_cases hx : x ∈ l
    · rw [expire_window, if_pos hx] at hv
      obtain ⟨w, hw, rfl⟩ := Option.map_eq_some_iff.mp hv
      obtain ⟨hst, -⟩ := hs.expiring hl hx hw
      obtain ⟨hclosed, hclear⟩ := (hs.window x w hw).domain
      refine .inr ⟨fun h => (nomatch h), fun h => (nomatch h), (hloc.keepsDomain w.owner).1 hclosed, fun h => ?_⟩
      have := hclear ((hloc.keepsDomain w.owner).2 h)
      rw [hst] at this
      cases this
    · rw [expire_window, if_neg hx] at hv
      by_cases hout : v.state.onChain = true → ∀ c, v.channel = some c → ¬ Expiring l s c
      · exact .inl ⟨v, hv, .refl v, hout⟩
      · push Not at hout
        obtain ⟨hon, c, hc, h, hm, hh, hst⟩ := hout
        refine .inr ((hs.expires_leaves hl hm hh hst).chainChange.windowFits hs hloc.keepsDomain (hs.mem_chain hv hon hc) ?_)
        rw [expire_window, if_neg hx, hv]
  · obtain ⟨h, -, -, hst⟩ := hc
    have hmov := hs.moving_of_unit hu
    rcases hst with hst | hst <;> rw [hst] at hmov <;> cases hmov

end

theorem Upheld.expire {s : State} (hs : Upheld s) {l : List Handle} (hl : ∀ h ∈ l, HeadWaits s h) : Upheld (s.expire l) where
  structured := hs.structured.expire hl
  granted := by
    have hf := frame_expire s l
    refine hs.granted.of_pending (congrArg Arbiter.holder (hf .arbiter (by simp)))
      (fun hr => (congrArg Arbiter.run (hf .arbiter (by simp))).symm.trans hr) fun c hc => ?_
    by_cases he : Expiring l s c
    · obtain ⟨h, hm, hh, hst⟩ := he
      rw [expire_channel_of_head hm hh hst] at hc
      cases hc
    · rwa [expire_channel_other he] at hc

/-- Window records that the structure cannot tell from what they were. -/
theorem Upheld.mapWindows {s : State} (hs : Upheld s) {f : Handle → Option Window → Option Window}
    (hf : ∀ h, f h none = none ∧ ∀ w, ∃ v, f h (some w) = some v ∧ v.Alike w) : Upheld (s.mapWindows f) where
  structured := by
    refine hs.structured.windows (fun d => by rw [State.mapWindows_domain]; exact .refl _)
      ((Frame.mapWindows s f).mono (by simp)) (fun h w hw _ => ?_)
      fun h v hv => .inl ?_
    · obtain ⟨v, hv, ha⟩ := (hf h).2 w
      exact ⟨v, by rw [State.mapWindows_window, hw, hv], ha⟩
    · rw [State.mapWindows_window] at hv
      cases hw : s.window h with
      | none =>
        rw [hw, (hf h).1] at hv
        cases hv
      | some w =>
        obtain ⟨y, hy, ha⟩ := (hf h).2 w
        rw [hw, hy] at hv
        cases hv
        exact ⟨w, rfl, ha⟩
  granted := hs.granted.congr (Frame.mapWindows s f .arbiter (by simp)) (Frame.mapWindows s f .channels (by simp))

/-- The windows whose lease falls by one. -/
def lowered (s : State) (h : Handle) (w : Option Window) : Option Window :=
  if s.leaseCounts h && !s.expires h then w.map fun x => { x with lease := x.lease - 1 } else w

theorem countdown_eq (s : State) : s.countdown = (s.mapWindows (lowered s)).expire (handles.filter s.expires) := rfl

theorem lowered_alike (s : State) (h : Handle) :
    lowered s h none = none ∧ ∀ w, ∃ v, lowered s h (some w) = some v ∧ v.Alike w := by
  unfold lowered
  split
  · exact ⟨rfl, fun w => ⟨_, rfl, ⟨rfl, rfl, rfl, rfl, rfl, rfl, rfl⟩⟩⟩
  · exact ⟨rfl, fun w => ⟨w, rfl, .refl w⟩⟩

theorem Upheld.countdown {s : State} (hs : Upheld s) : Upheld s.countdown := by
  rw [countdown_eq]
  refine (hs.mapWindows (lowered_alike s)).expire fun h hm => ?_
  obtain ⟨w, c, hw, hst, hc, hch⟩ := headWaits_of_expires (List.mem_filter.mp hm).2
  obtain ⟨v, hv, ha⟩ := (lowered_alike s h).2 w
  exact ⟨v, c, by rw [State.mapWindows_window, hw, hv], ha.state.trans hst, ha.channel.trans hc,
    by rwa [State.mapWindows_channel]⟩

theorem frame_countdown (s : State) : Frame s s.countdown [.windows, .causes, .channels, .notices] := by
  rw [countdown_eq]
  exact ((Frame.mapWindows s _).mono (by simp)).trans (frame_expire _ _)

/-! ## The bus, the age of the unit and the request lines -/

/-- The unit record written anew for the same window, in a phase that the stale cycle flag admits. -/
theorem Upheld.setRecord {s : State} (hs : Upheld s) {u v : UnitRecord} (hu : s.memory.record = some u)
    (hv : v.channel = u.channel ∧ v.window = u.window) (hrec : ∀ w, RecordOf u w → RecordOf v w)
    (hcycle : v.phase = .busCycle → s.memory.stale = false) : Upheld (s.setRecord (some v)) where
  structured := hs.structured.reissued
    { domain := fun _ => rfl, port := fun _ => rfl, holder := rfl, channel := fun _ _ => rfl
      moving := fun _ _ => ⟨rfl, rfl, rfl, rfl, rfl⟩, window := fun _ _ => rfl
      none := fun h => by rw [hu] at h; cases h
      unit := fun y w hy hw hyr => by
        rw [hu] at hy
        cases hy
        exact ⟨v, w, rfl, hw, hv.1, hv.2, hcycle, hrec w hyr, rfl, rfl, rfl⟩ }
  granted := hs.granted.congr rfl rfl

theorem Upheld.discardCompletion {s : State} (hs : Upheld s) : Upheld s.discardCompletion where
  structured := hs.structured.reissued
    { domain := fun _ => rfl, port := fun _ => rfl, holder := rfl, channel := fun _ _ => rfl
      moving := fun _ _ => ⟨rfl, rfl, rfl, rfl, rfl⟩, window := fun _ _ => rfl, none := id
      unit := fun u w hu hw hrec => ⟨u, w, hu, hw, rfl, rfl, fun _ => rfl, hrec, rfl, rfl, rfl⟩ }
  granted := hs.granted.congr rfl rfl

theorem Upheld.busGrant {s : State} (hs : Upheld s) {u : UnitRecord} (hu : s.memory.record = some u)
    (hw : s.wantsBus u = true) : Upheld (s.setRecord (some { u with phase := .busCycle })) := by
  simp only [State.wantsBus, Bool.and_eq_true, bne_iff_ne, ne_eq, beq_iff_eq, Bool.not_eq_true'] at hw
  obtain ⟨⟨hdir, -⟩, hstale⟩ := hw
  refine hs.setRecord hu ⟨rfl, rfl⟩ (fun w hr => ?_) fun _ => hstale
  obtain ⟨h1, h2, h3, h4, h5, -⟩ := hr
  exact ⟨h1, h2, h3, h4, h5, by simp [hdir]⟩

theorem Upheld.ageUnit {s : State} (hs : Upheld s) : EventKeeps s s.ageUnit := by
  obtain h | ⟨u, hu, -, ⟨-, h⟩ | ⟨-, h⟩⟩ := ageUnit_cases s <;> rw [h]
  · exact ⟨hs, rfl⟩
  · exact hs.structured.timeout hu
  · exact ⟨hs.setRecord hu ⟨rfl, rfl⟩ (fun _ h => h) (hs.structured.unit u hu).cycle, rfl⟩

theorem Upheld.tick {s : State} (hs : Upheld s) : EventKeeps s s.tick := by
  have hclock : Upheld ({ s with clock := { s.clock with divider := 0 } } : State) := hs.congr rfl rfl rfl id rfl rfl rfl
  obtain ⟨hup, hr⟩ := hclock.countdown.ageUnit
  exact ⟨hup, hr.trans (frame_countdown ({ s with clock := { s.clock with divider := 0 } } : State) .resetLine (by simp))⟩

/-- An IDLE record stays sound where only fields that the table does not read change. -/
theorem RecordSound.idle_of {ch ch' : Channel} {head : WindowState → Prop} (h : RecordSound ch head)
    (hi : ch.state = .idle) (howner : ch'.owner = ch.owner) (hchain : ch'.chain = ch.chain) (hst : ch'.state = .idle)
    (hdis : ch'.disablePending = ch.disablePending) (hstall : ch'.stall = ch.stall) : RecordSound ch' head := by
  obtain ⟨h1, h2, h3, -, h5, -⟩ := h
  rw [RecordSound, howner, hchain, hdis, hstall, hst]
  rw [hi] at h1 h2 h3 h5
  exact ⟨h1, h2, h3, by simp, h5, by simp⟩

/-- A request event at any channel (R29). -/
theorem Structured.request {s : State} (hs : Structured s) (c : ChannelId) (b : Bool) :
    Structured ((s.setPin c b).updChannel c fun ch => ch.requestEvent b) := by
  have hpin : Structured (s.setPin c b) := hs.congr (fun _ => .refl _) (fun _ => rfl) rfl rfl rfl rfl
  have fits := hs.channel c
  by_cases hidle : (s.channel c).state = .idle
  · have hf : (s.channel c).requestEvent b = { s.channel c with line := b, starved := (s.channel c).starved || b } :=
      if_pos hidle
    refine hpin.updChannel c ?_ ?_ (fun head _ h => ?_) fun hn => ?_
    · exact hf ▸ ⟨rfl, rfl, rfl⟩
    · exact hf ▸ Iff.rfl
    · exact hf ▸ h.idle_of hidle rfl rfl hidle rfl rfl
    · have := (fits.sound.1 hn).1
      rw [hidle] at this
      cases this
  · have hf : (s.channel c).requestEvent b = ({ s.channel c with line := b } : Channel).followRequest := if_neg hidle
    obtain ⟨hchain, howner, hdis, hmov⟩ := followRequest_fields { s.channel c with line := b }
    refine hpin.updChannel c ?_ ?_ (fun head _ h => ?_) fun hn => ?_
    · exact hf ▸ ⟨hchain, howner, hdis⟩
    · exact hf ▸ hmov
    · exact hf ▸ h.followRequest rfl rfl rfl rfl rfl
    · have hoff : (s.channel c).state = .off := (fits.sound.1 hn).1
      have hsame : ({ s.channel c with line := b } : Channel).followRequest = { s.channel c with line := b } := by
        simp [Channel.followRequest, hoff]
      have hreset := fits.unowned hn
      rw [hsame] at hf
      exact hf ▸ hreset

end Sys2Proof.Machine

namespace Sys2Proof.Machine

/-! ## The values of hardware reset have the structure -/

theorem Structured.of_atReset {s : State} (hr : AtResetValues s) : Structured s := by
  obtain ⟨hwin, hch, ⟨-, -, hholder⟩, ⟨hrec, -⟩, -, hdom, ⟨h0, -⟩, hclosed⟩ := hr
  have hidle : ∀ d, (s.port d).waiting = none := fun d => by
    obtain ⟨-, ⟨hbusy, -⟩, -⟩ := hdom d
    simpa [Port.busy] using hbusy
  have hclear : ∀ d, (s.domain d).clearing = false ∧ (s.domain d).awaited = 0 := fun d => by
    obtain ⟨-, -, -, -, hc⟩ := hdom d
    exact hc
  constructor
  case supervisor => exact h0
  case channel =>
    intro c
    obtain ⟨howner, hoff, -, -, -, -, -, -, hchain, -, -, hdis, hstall⟩ := hch c
    refine ⟨by simp [hchain], by simp [hchain], ⟨fun _ => ⟨hoff, hchain⟩, ?_, ?_, fun _ => headIs_nil hchain _, ?_⟩,
      fun d h => ?_, fun h => ?_, fun _ => hch c, ?_⟩
    · simp [hdis]
    · simp [hoff, hstall]
    · simp [hoff]
    · rw [howner] at h
      cases h
    · rw [hdis] at h
      cases h
    · simp [hoff, hholder]
  case window =>
    intro h w hw
    rw [(hwin h).1] at hw
    cases hw
  case held => simp [hholder, hrec]
  case unit =>
    intro u hu
    rw [hrec] at hu
    cases hu
  case domain =>
    intro d
    obtain ⟨hc, ha⟩ := hclear d
    refine ⟨fun hd => ?_, by simp [hc, ha], fun _ h => ?_, fun h => ?_⟩
    · simp [hc, (hclosed d hd).1]
    all_goals
      rw [hc] at h
      cases h
  case port =>
    intro d
    refine ⟨fun h => ?_, fun x hx => ?_⟩
    · simp [Port.busy, hidle d] at h
    · rw [hidle d] at hx
      cases hx

theorem structureSound_of_atReset {s : State} (hr : AtResetValues s) : StructureSound s := by
  refine structureSound_iff.mpr ⟨.of_atReset hr, fun _ _ c hc => ?_, fun _ => hr⟩
  obtain ⟨-, hch, -⟩ := hr
  rw [(hch c).2.1] at hc
  cases hc

/-- The levels that the lines stand at when RESETN is withdrawn are no reset values (R50). -/
theorem atResetValues_resetRelease {s : State} (hr : AtResetValues s) : AtResetValues s.resetRelease := by
  obtain ⟨hwin, hch, hrest⟩ := hr
  refine ⟨hwin, fun c => ?_, hrest⟩
  rw [resetRelease_channel]
  exact hch c

/-! ## Every change -/

/-- What a change keeps of the structure while RESETN is withdrawn. -/
theorem EventKeeps.structureSound {s t : State} (h : EventKeeps s t) (hr : s.resetAsserted = false) : StructureSound t := by
  obtain ⟨⟨hst, hgrant⟩, hreset⟩ := h
  refine structureSound_iff.mpr ⟨hst, hgrant, fun ht => ?_⟩
  rw [hreset, hr] at ht
  cases ht

theorem StructureSound.upheld {s : State} (hs : StructureSound s) : Upheld s :=
  ⟨(structureSound_iff.mp hs).1, (structureSound_iff.mp hs).2.1⟩

/-- A change of nothing that the structure or the reset values speak of. -/
theorem StructureSound.congr {s t : State} (hs : StructureSound s)
    (h : t.windows = s.windows ∧ t.channels = s.channels ∧ t.domains = s.domains ∧ t.ports = s.ports ∧
      t.arbiter = s.arbiter ∧ t.memory = s.memory)
    (hr : t.resetAsserted = true → AtResetValues s → AtResetValues t)
    (ht : t.resetAsserted = s.resetAsserted) : StructureSound t := by
  obtain ⟨hw, hc, hd, hp, ha, hm⟩ := h
  obtain ⟨hst, hg, hreset⟩ := structureSound_iff.mp hs
  obtain ⟨hst', hg'⟩ := Upheld.congr ⟨hst, hg⟩ hd hp (congrArg Arbiter.holder ha)
    (fun h => (congrArg Arbiter.run ha).symm.trans h) hm hc hw
  exact structureSound_iff.mpr ⟨hst', hg', fun h => hr h (hreset (ht ▸ h))⟩

theorem frame_setCauses (s : State) (h : Handle) (x : CauseSet) : Frame s (s.setCauses h x) [.causes] := by
  intro b hb
  cases b <;> first | rfl | exact absurd (by simp) hb

theorem frame_deliver (s : State) (d : DomainId) : Frame s (s.deliver d) [.causes, .notices] := by
  unfold State.deliver
  split
  · exact Frame.refl _ _
  · next l h _ =>
    have hleft : Frame s ((s.leaveList d l h).setCauses h 0) [.causes, .notices] :=
      ((Frame.updNotice s d _).mono (by simp)).trans ((frame_setCauses _ h _).mono (by simp))
    dsimp only
    split
    · exact hleft
    · exact hleft.trans ((Frame.updNotice _ d _).mono (by simp))

/-- A command that is accepted finds the structure, its port idle and its domain OPEN. -/
theorem Taking.of_accept {s : State} (hs : Upheld s) {d : DomainId} (w : Word) (hb : (s.port d).busy = false)
    (ho : (s.domain d).state = .opened) : Taking (s.accept d w) d where
  upheld := hs.of_waiting d (f := fun p => { p with commandWord := w, taken := p.params }) rfl
  idle := by
    rw [Port.busy, Option.isSome_eq_false_iff, Option.isNone_iff_eq_none] at hb
    simpa [State.accept] using hb
  opened := ho

theorem Change.keeps_structure {s t : State} (hx : Change s t) (hs : StructureSound s) : StructureSound t := by
  have hup := hs.upheld
  cases hx with
  | unchanged => exact hs
  | command d w hr hb ho =>
    obtain ⟨hup', hr'⟩ := bodyOf_upholds (.of_accept hup w hb ho) (codeField w) (targetField w)
    exact EventKeeps.structureSound ⟨hup', hr'⟩ hr
  | port d f r hr hf => exact EventKeeps.structureSound ⟨(hup.of_waiting d hf).congr rfl rfl rfl id rfl rfl rfl, rfl⟩ hr
  | readZero => exact hs.congr ⟨rfl, rfl, rfl, rfl, rfl, rfl⟩ (fun _ h => h) rfl
  | deliver d r hr =>
    have hf := frame_deliver s d
    refine EventKeeps.structureSound ⟨hup.congr (hf .domains (by simp)) (hf .ports (by simp))
      (congrArg Arbiter.holder (hf .arbiter (by simp))) (fun h => (congrArg Arbiter.run (hf .arbiter (by simp))).symm.trans h)
      (hf .memory (by simp)) (hf .channels (by simp)) (hf .windows (by simp)), hf .resetLine (by simp)⟩ hr
  | pin c b => exact hs.congr ⟨rfl, rfl, rfl, rfl, rfl, rfl⟩ (fun _ h => h) rfl
  | request c b hr hl =>
    exact EventKeeps.structureSound (.of_grantDecision (l := [.rq, .channels]) (hup.structured.request c b)
      (((frame_setPin s c b).mono (by simp)).trans ((Frame.updChannel _ c _).mono (by simp))) (by simp)) hr
  | busGrant u hr hu hw => exact EventKeeps.structureSound ⟨hup.busGrant hu hw, rfl⟩ hr
  | discard hr hn => exact EventKeeps.structureSound ⟨hup.discardCompletion, rfl⟩ hr
  | unitOk u hr hu hp => exact (hup.structured.unitOk hu).structureSound hr
  | busError u hr hu hp => exact (hup.structured.busError hu).structureSound hr
  | tick hr he => exact hup.tick.structureSound hr
  | expiry h hr he hx =>
    have hl : ∀ y ∈ [h], HeadWaits s y := fun y hy => by
      rw [List.mem_singleton] at hy
      exact hy ▸ headWaits_of_expires hx
    exact EventKeeps.structureSound ⟨hup.expire hl, frame_expire s [h] .resetLine (by simp)⟩ hr
  | timeout u hr he hu hx => exact (hup.structured.timeout hu).structureSound hr
  | reset => exact structureSound_of_atReset (s := s.hardwareReset) reset_atResetValues
  | release hr => exact structureSound_of_atReset (atResetValues_resetRelease ((structureSound_iff.mp hs).2.2 hr))

end Sys2Proof.Machine

namespace Sys2Proof.Proofs

open Sys2Proof.Machine

/-- Settles O56: every kind of change keeps the structure, record by record. -/
theorem structureKept : Obligations.StructureKept := by
  refine keptByStep_of_change (fun s q hs => hs.congr ⟨rfl, rfl, rfl, rfl, rfl, rfl⟩ (fun _ h => h) rfl)
    (fun s he _ hs => hs.congr ⟨rfl, rfl, rfl, rfl, rfl, rfl⟩ (fun _ hr => ?_) rfl) fun s t hx hs => hx.keeps_structure hs
  obtain ⟨-, -, -, -, ⟨h0, -⟩, -⟩ := hr
  exact absurd h0 he

end Sys2Proof.Proofs

namespace Sys2Proof.Machine

/-! ## The order of the search for a winner (R55) -/

/-- A search that answers stops at the first place with an answer: the other direction of `findSome_finRange`. -/
theorem first_of_findSome_finRange {n : Nat} {α : Type} {f : Fin n → Option α} {x : α}
    (h : (List.finRange n).findSome? f = some x) : ∃ i, f i = some x ∧ ∀ j < i, f j = none := by
  cases hi : (List.finRange n).find? fun k => (f k).isSome with
  | none =>
    have hnone : (List.finRange n).findSome? f = none := by simpa [List.find?_eq_none] using hi
    rw [hnone] at h
    cases h
  | some i =>
    obtain ⟨hsome, hbefore⟩ := find_finRange.mp hi
    obtain ⟨y, hy⟩ := Option.isSome_iff_exists.mp hsome
    have hj : ∀ j < i, f j = none := fun j hji => by simpa using hbefore j hji
    rw [findSome_finRange hy hj] at h
    exact ⟨i, hy.trans h, hj⟩

/-- The place of a channel in the order in which a class is searched (R55). -/
def searchPlace (p : Policy) (pointer c : ChannelId) : ChannelId :=
  match p with
  | .fixed => c
  | .rotate => c - pointer - 1

/-- The search of a class finds the channel that satisfies the test at the earliest place. -/
theorem find_searchOrder {p : Policy} {pointer c : ChannelId} {q : ChannelId → Bool}
    (h : (searchOrder p pointer).find? q = some c) :
    q c = true ∧ ∀ x, q x = true → searchPlace p pointer c ≤ searchPlace p pointer x := by
  have hplace : ∀ i : ChannelId, (pointer + 1 + i) - pointer - 1 = i := fun i => by
    rw [sub_sub, add_sub_cancel_left]
  have hback : ∀ x : ChannelId, pointer + 1 + (x - pointer - 1) = x := fun x => by
    rw [sub_sub, add_sub_cancel]
  cases p with
  | fixed =>
    obtain ⟨hc, hbefore⟩ := find_finRange.mp h
    refine ⟨hc, fun x hx => Fin.not_lt.mp fun hlt => ?_⟩
    rw [hbefore x hlt] at hx
    cases hx
  | rotate =>
    rw [searchOrder, List.find?_map, Option.map_eq_some_iff] at h
    obtain ⟨i, hi, rfl⟩ := h
    obtain ⟨hc, hbefore⟩ := find_finRange.mp hi
    refine ⟨hc, fun x hx => Fin.not_lt.mp fun hlt => ?_⟩
    simp only [searchPlace, hplace] at hlt
    have hnot := hbefore _ hlt
    rw [Function.comp_apply, hback, hx] at hnot
    cases hnot

/-- Every channel stands in the order in which a class is searched. -/
theorem mem_searchOrder (p : Policy) (pointer x : ChannelId) : x ∈ searchOrder p pointer := by
  cases p with
  | fixed => exact List.mem_finRange x
  | rotate => exact List.mem_map.mpr ⟨x - (pointer + 1), List.mem_finRange _, add_sub_cancel _ x⟩

/-- The winner is of the lowest class with a PENDING channel, and at the earliest place of the search there (R55). -/
theorem winner_first {s : State} {k : ClassId} {c : ChannelId} (h : s.winner = some (k, c)) :
    (∀ x : ChannelId, (s.channel x).state = .pending → k ≤ (s.channel x).cls) ∧
      ∀ x : ChannelId, (s.channel x).state = .pending → (s.channel x).cls = k →
        searchPlace s.arbiter.policies[k] s.arbiter.pointers[k] c ≤
          searchPlace s.arbiter.policies[k] s.arbiter.pointers[k] x := by
  obtain ⟨i, hi, hbefore⟩ := first_of_findSome_finRange h
  obtain ⟨y, hfind, heq⟩ := Option.map_eq_some_iff.mp hi
  cases heq
  refine ⟨fun x hx => Fin.not_lt.mp fun hlt => ?_, fun x hx hk => ?_⟩
  · have hnone := List.find?_eq_none.mp (Option.map_eq_none_iff.mp (hbefore _ hlt)) x (mem_searchOrder _ _ x)
    simp [State.contends, hx] at hnone
  · exact (find_searchOrder hfind).2 x (by simp [State.contends, hx, hk])

/-! ## What a grant writes (R56, R68) -/

theorem grant_arbiter (s : State) (k : ClassId) (c : ChannelId) :
    (s.grant k c).arbiter =
      { s.arbiter with
        holder := some c
        pointers :=
          if s.arbiter.policies[k] = .rotate then s.arbiter.pointers.set k c else s.arbiter.pointers } := by
  cases hp : s.arbiter.policies[k] <;> simp [State.grant, hp]

theorem issue_stale (s : State) (c : ChannelId) : (s.issue c).memory.stale = s.memory.stale := by
  obtain h | ⟨_, _, _, -, -, h⟩ := issue_cases s c <;> rw [h]
  rfl

theorem grant_stale (s : State) (k : ClassId) (c : ChannelId) : (s.grant k c).memory.stale = s.memory.stale :=
  issue_stale _ c

/-! ## The words of the arbiter and of the clock (R63, R64, R103) -/

theorem arbiterResults_eq (a : Arbiter) : arbiterResults a = arbiterLayout a := by
  simp only [arbiterResults, arbiterLayout, arbiterWord, pointerWord, optionalField_eq, BitVec.or_assoc]

theorem policy_ofCode {v : Nat} {x : Policy} : Policy.ofCode v = some x ↔ v = x.code := by
  unfold Policy.ofCode
  split <;> cases x <;> simp_all [Policy.code]

/-- The policy decoder answers exactly the four policies whose codes the policy word holds (R64). -/
theorem decodePolicies_eq_some {w : Word} {ps : Vector Policy 4} :
    decodePolicies w = some ps ↔ ∀ k : ClassId, bits w (2 * k.val) 2 = ps[k].code := by
  simp only [decodePolicies, Option.bind_eq_bind, Option.bind_eq_some_iff, policy_ofCode, Option.some.injEq]
  constructor
  · rintro ⟨p0, h0, p1, h1, p2, h2, p3, h3, rfl⟩
    simpa [Fin.forall_fin_succ] using ⟨h0, h1, h2, h3⟩
  · intro h
    refine ⟨ps[0], h 0, ps[1], h 1, ps[2], h 2, ps[3], h 3, Vector.ext fun i hi => ?_⟩
    match i, hi with
    | 0, _ | 1, _ | 2, _ | 3, _ => rfl

theorem decodePolicies_bad {w : Word} (h : ∃ k : ClassId, 2 ≤ bits w (2 * k.val) 2) : decodePolicies w = none := by
  obtain ⟨k, hk⟩ := h
  refine Option.eq_none_iff_forall_ne_some.mpr fun ps hps => ?_
  rw [decodePolicies_eq_some.mp hps k] at hk
  cases hp : ps[k] <;> simp [hp, Policy.code] at hk

/-- The policy that a policy code of 0 or 1 names (R64). -/
def policyOf (v : Nat) : Policy := if v = 0 then .fixed else .rotate

theorem code_policyOf {v : Nat} (hv : v ≤ 1) : (policyOf v).code = v := by
  obtain rfl | rfl := Nat.le_one_iff_eq_zero_or_eq_one.mp hv <;> rfl

theorem decodePolicies_good {w : Word} (h : ∀ k : ClassId, bits w (2 * k.val) 2 ≤ 1) :
    decodePolicies w = some (Vector.ofFn fun k : ClassId => policyOf (bits w (2 * k.val) 2)) :=
  decodePolicies_eq_some.mpr fun k => by rw [getElem_ofFn_fin, code_policyOf (h k)]

theorem clockAccepted_iff {e u : Nat} : clockAccepted e u = true ↔ (e = 0 ∨ (8 ≤ e ∧ e ≤ 24)) ∧ u ≤ 15 := by
  simp only [clockAccepted, Bool.and_eq_true, Bool.or_eq_true, beq_iff_eq, decide_eq_true_eq]
  rfl

/-! ## The commands of arbiter and clock, by their checks in their order (R163) -/

theorem setArbiter_bad {s : State} (t : BitVec 8) (h : ∃ k : ClassId, 2 ≤ bits (s.taken 0)[0] (2 * k.val) 2) :
    setArbiter 0 t s = .refused .badValue := by
  simp [setArbiter, supervisor, decodePolicies_bad h]

theorem setArbiter_good {s : State} (t : BitVec 8) (h : ∀ k : ClassId, bits (s.taken 0)[0] (2 * k.val) 2 ≤ 1) :
    setArbiter 0 t s =
      let a : Arbiter :=
        { s.arbiter with policies := Vector.ofFn fun k : ClassId => policyOf (bits (s.taken 0)[0] (2 * k.val) 2) }
      .done { s with arbiter := a } (arbiterLayout a) := by
  simp only [setArbiter, supervisor, decodePolicies_good h, arbiterResults_eq, if_true]

theorem pauseArbiter_eq (t : BitVec 8) (s : State) :
    pauseArbiter 0 t s =
      let a : Arbiter := { s.arbiter with run := .paused }
      .done { s with arbiter := a } (arbiterLayout a) :=
  congrArg (Completion.done _) (arbiterResults_eq _)

theorem runArbiter_eq (t : BitVec 8) (s : State) :
    runArbiter 0 t s = .done s.running.grantDecision (arbiterLayout s.running.grantDecision.arbiter) :=
  congrArg (Completion.done _) (arbiterResults_eq _)

theorem setClock_good {s : State} (t : BitVec 8) {e u : Nat} (he : e = bits (s.taken 0)[0] 0 8)
    (hu : u = bits (s.taken 0)[0] 8 8) (hok : (e = 0 ∨ (8 ≤ e ∧ e ≤ 24)) ∧ u ≤ 15) :
    setClock 0 t s = .done { s with clock := s.clock.setTo e u } (words (field e 0 ||| field u 8) 0 0 0) := by
  simp only [setClock, supervisor, ← he, ← hu, clockAccepted_iff.mpr hok, if_true, Bool.true_eq_false, if_false]
  rfl

theorem running_self {s : State} (h : s.arbiter.run = .run) : s.running = s := by
  unfold State.running
  rw [← h]

/-! ## A unit that is followed by another (R57) -/

section
variable {w : Window} (h : 1 < w.remaining)
include h

theorem afterOk_of_more :
    afterOk w = { w with remaining := w.remaining - 1, address := w.nextAddress, lease := w.leaseLimit } := if_pos h

theorem afterHeadOk_of_more : w.afterHeadOk = afterOk w := by
  simp [Window.afterHeadOk, exhausts_eq, afterOk_of_more, Window.counted, h]

/-- The unit issued after a counted one: at the new address, and the last one where two were to go (R68, R74). -/
theorem unitFor_afterOk (c : ChannelId) (x : Handle) :
    unitFor c x (afterOk w) =
      { channel := c, window := x, direction := w.direction, address := w.nextAddress, size := w.size
        lanes := unitLanes w.nextAddress w.size, last := w.remaining == 2
        phase := if w.direction = .check then .strobe else .busWait, age := 0 } := by
  have hlast : (w.remaining - 1 == 1) = (w.remaining == 2) := by
    rw [Bool.eq_iff_iff, beq_iff_eq, beq_iff_eq]
    omega
  simp only [afterOk_of_more h, unitFor, hlast]

end

/-- The records after a completion OK that is followed by another unit: counted, with nothing raised (R77, R80). -/
def State.countedOn (s : State) (u : UnitRecord) : State :=
  s.unitEnded u Window.afterHeadOk false none Channel.countedOk

theorem countedOn_channel_self (s : State) (u : UnitRecord) :
    (s.countedOn u).channel u.channel = (s.channel u.channel).countedOk :=
  (unitEnded_channel s u _ _ _ _ u.channel).trans (if_pos rfl)

theorem frame_countedOn (s : State) (u : UnitRecord) : Frame s (s.countedOn u) [.windows, .channels] :=
  ((Frame.updWindow s u.window _).mono (by simp)).trans ((Frame.updChannel _ u.channel _).mono (by simp))

/-- Under the conditions of R57 the unit is counted and the next one is issued. -/
theorem headOk_of_continues {s : State} {u : UnitRecord} {w : Window}
    (h : continues s.arbiter (s.channel u.channel) w) : s.headOk u w = (s.countedOn u).issue u.channel := by
  have ⟨_, _, hmore, _⟩ := h
  have hcounted : s.headCounted u w = s.countedOn u := by
    simp [headCounted_eq, State.countedOn, exhausts_eq, okCause_eq, causeOfOk, hmore]
  have hgo : goesOn (s.countedOn u).arbiter.run ((s.countedOn u).channel u.channel) w = true := by
    rw [frame_countedOn s u .arbiter (by simp), countedOn_channel_self]
    exact (goesOn_countedOk _ _ w _).mpr h
  rw [headOk_eq, hcounted, if_pos hgo]

end Sys2Proof.Machine

namespace Sys2Proof.Proofs

open Sys2Proof.Machine

/-- Settles O34, command by command. -/
theorem arbiterAndClockSettings : Obligations.ArbiterAndClockSettings := by
  rintro s a tgt up _ hA rfl
  refine ⟨?_, fun hbad => ?_, fun hgood => ?_, fun e u he hu hexp hlim => ?_⟩
  · exact ⟨_, exec_done hA rfl (pauseArbiter_eq _ _), rfl, answers_complete _ _ rfl,
      Frame.complete (by simp) ((Frame.arbiter _ _).mono (by simp))⟩
  · exact refused_of hA rfl rfl (setArbiter_bad _ (by rwa [taken_accept]))
  · have hb := setArbiter_good (s := s.accept 0 (commandWord 0x47 tgt up)) tgt (by rwa [taken_accept])
    rw [taken_accept] at hb
    exact ⟨_, exec_done hA rfl hb, fun k => getElem_ofFn_fin _ k, rfl, rfl, rfl, answers_complete _ _ rfl,
      Frame.complete (by simp) ((Frame.arbiter _ _).mono (by simp))⟩
  · have hb := setClock_good (s := s.accept 0 (commandWord 0x4A tgt up)) tgt (by rwa [taken_accept])
      (by rwa [taken_accept]) ⟨hexp, hlim⟩
    exact ⟨_, exec_done hA rfl hb, rfl, answers_complete _ _ rfl,
      Frame.complete (by simp) ((Frame.clock _ _).mono (by simp))⟩

/-- Settles O35: the grant decision reads no port record, so it may follow the completion. -/
theorem runArbiter : Obligations.RunArbiter := by
  intro s a tgt up hA
  refine ⟨_, exec_done_grant hA rfl (runArbiter_eq tgt _), rfl, ?_,
    Frame.complete (by simp) ((frame_running _).mono (by simp)), fun hrun hno => ?_⟩
  · rw [complete_grantDecision]
    exact answers_complete _ _ rfl
  · rw [running_self (s := s.accept 0 (commandWord 0x49 tgt up)) hrun]
    exact ⟨grantDecision_of_noGrantDue (hno.congr rfl rfl), Frame.complete (by simp) (Frame.refl _ _)⟩

/-- Settles O36: the winner is the first of the search, and the grant writes what R56 says. -/
theorem grantDecision : Obligations.GrantDecision := by
  refine fun s => ⟨fun hnone => ?_, fun hfree hrun ⟨y, hy⟩ => ?_⟩
  · refine grantDecision_of_noGrantDue fun hfree hrun => ?_
    obtain hheld | hpaused | hidle := hnone
    · exact absurd hfree hheld
    · rw [hrun] at hpaused
      cases hpaused
    · exact hidle
  · obtain ⟨-, hno⟩ | ⟨k, c, -, -, hw, hgrant⟩ := grantDecision_cases s
    · obtain hheld | hpaused | hwin := hno
      · exact absurd hfree hheld
      · exact absurd hrun hpaused
      · exact absurd hy (not_pending_of_winner hwin y)
    · obtain ⟨hpending, hcls⟩ := winner_contends hw
      obtain ⟨hlowest, hfirst⟩ := winner_first hw
      rw [hgrant]
      refine ⟨k, c, hpending, hcls, hlowest, fun hp => ?_, fun hp => ?_, grant_arbiter s k c, ?_, fun x hx => ?_,
        frame_grant s k c, grant_stale s k c, fun h w hh hwin => ⟨?_, lanesFor_unitLanes _ _⟩⟩
      · simpa only [hp, searchPlace] using hfirst
      · simpa only [hp, searchPlace, Fin.le_def] using hfirst
      · rw [grant_channel, if_pos rfl]
      · rw [grant_channel, if_neg hx]
      · rw [grant_memory hh hwin]
        rfl

/-- Settles O45: the outcome raises nothing and the channel goes on, so all that follows the count is the issue. -/
theorem unitGoesOn : Obligations.UnitGoesOn := by
  rintro s u i w _ hend hw hst hclear rfl hhead hcont
  have ⟨_, _, hmore, _⟩ := hcont
  have hexec : exec i s = .next (((s.setRecord none).countedOn u).issue u.channel) := by
    rw [unitEnds_ok hend, unitOk_active hw hclear hst, headOk_of_continues (s := s.setRecord none) hcont]
  have hchannel := countedOn_channel_self (s.setRecord none) u
  have hwindow : ((s.setRecord none).countedOn u).window u.window = some (afterOk w) := by
    rw [State.countedOn, unitEnded_window_self (s := s.setRecord none) hw, afterHeadOk_of_more hmore]
  have hnext : (((s.setRecord none).countedOn u).channel u.channel).chain.head? = some u.window := by
    rw [hchannel]
    exact hhead
  have hcounted := frame_countedOn (s.setRecord none) u
  refine ⟨_, hexec, ?_, fun x hx => ?_, ?_, fun c hc => ?_, ?_, lanesFor_unitLanes _ _,
    ((frame_setRecord s none).mono (by simp)).trans
      ((hcounted.mono (by simp)).trans ((frame_issue _ u.channel).mono (by simp)))⟩
  · rw [State.issue_window, hwindow]
  · rw [State.issue_window, State.countedOn, unitEnded_window, if_neg hx]
    rfl
  · rw [State.issue_channel, hchannel]
    rfl
  · rw [State.issue_channel, State.countedOn, unitEnded_channel, if_neg hc]
    rfl
  · rw [issue_memory hnext hwindow, unitFor_afterOk hmore, hcounted .memory (by simp)]
    rfl

end Sys2Proof.Proofs

/-! The lease clock, the age of the unit in flight and the events on the lines of the memory bus. -/

namespace Sys2Proof.Machine

/-! ## What the ranges of the clock and of the unit age depend on -/

theorem ClockInRange.congr {s t : State} (hs : ClockInRange s) (hclock : t.clock = s.clock)
    (hrecord : t.memory.record = s.memory.record) : ClockInRange t := by
  simpa only [ClockInRange, hclock, hrecord] using hs

/-- A change that leaves the clock and the memory port alone. -/
theorem ClockInRange.of_frame {s t : State} {l : List Block} (hs : ClockInRange s) (hf : Frame s t l)
    (hclock : Block.clock ∉ l) (hmem : Block.memory ∉ l) : ClockInRange t :=
  hs.congr (hf .clock hclock) (congrArg MemoryPort.record (hf .memory hmem))

theorem ClockInRange.setRecord {s : State} (hs : ClockInRange s) {o : Option UnitRecord}
    (hage : ∀ u ∈ o, u.age ≤ Config.maxUnitLimit) : ClockInRange (s.setRecord o) := by
  obtain ⟨hexp, hlimit, hdiv, -⟩ := hs
  exact ⟨hexp, hlimit, hdiv, hage⟩

theorem ClockInRange.setClock {s : State} (hs : ClockInRange s) {k : Clock}
    (hexp : k.exponent = 0 ∨ (Config.minExponent ≤ k.exponent ∧ k.exponent ≤ Config.maxExponent))
    (hlimit : k.unitLimit ≤ Config.maxUnitLimit) (hdiv : k.divider < 2 ^ k.exponent) :
    ClockInRange { s with clock := k } := by
  obtain ⟨-, -, -, hage⟩ := hs
  exact ⟨hexp, hlimit, hdiv, hage⟩

/-- A count of the divider that stays below its limit (R104). -/
theorem ClockInRange.setDivider {s : State} (hs : ClockInRange s) {n : Nat} (hn : n < 2 ^ s.clock.exponent) :
    ClockInRange { s with clock := { s.clock with divider := n } } := by
  obtain ⟨hexp, hlimit, -, -⟩ := id hs
  exact hs.setClock hexp hlimit hn

/-! ## The issue of a unit writes age 0 (R68) -/

theorem ClockInRange.issue {s : State} (hs : ClockInRange s) (c : ChannelId) : ClockInRange (s.issue c) := by
  obtain h | ⟨_, _, _, -, -, h⟩ := issue_cases s c <;> rw [h]
  · exact hs
  · exact hs.setRecord (by simp [unitFor])

theorem ClockInRange.grant {s : State} (hs : ClockInRange s) (k : ClassId) (c : ChannelId) :
    ClockInRange (s.grant k c) := by
  unfold State.grant
  refine ClockInRange.issue ?_ c
  exact hs.congr rfl rfl

theorem ClockInRange.grantDecision {s : State} (hs : ClockInRange s) : ClockInRange s.grantDecision := by
  obtain ⟨h, -⟩ | ⟨k, c, -, -, -, h⟩ := grantDecision_cases s <;> rw [h]
  · exact hs
  · exact hs.grant k c

/-! ## The end of a unit -/

theorem ClockInRange.yield {s : State} (hs : ClockInRange s) (u : UnitRecord) : ClockInRange (s.yield u) :=
  (hs.of_frame (frame_yielded s u) (by simp) (by simp)).grantDecision

theorem ClockInRange.tornDownEnd {s : State} (hs : ClockInRange s) (u : UnitRecord) (w : Window) :
    ClockInRange (s.tornDownEnd u w) :=
  ((hs.of_frame (frame_drainFreed (u := u) (w := w)) (by simp) (by simp)).of_frame (frame_finishTeardown _) (by simp)
    (by simp)).grantDecision

theorem ClockInRange.unitEnded {s : State} (hs : ClockInRange s) (u : UnitRecord) (g : Window → Window) (off : Bool)
    (x : Option Cause) (k : Channel → Channel) : ClockInRange (s.unitEnded u g off x k) :=
  hs.of_frame (frame_unitEnded s u g off x k) (by simp) (by simp)

theorem ClockInRange.headOk {s : State} (hs : ClockInRange s) (u : UnitRecord) (w : Window) :
    ClockInRange (s.headOk u w) := by
  have hcounted : ClockInRange (s.headCounted u w) := hs.unitEnded u _ _ _ _
  rw [headOk_eq]
  split
  · exact hcounted.issue _
  · exact hcounted.yield u

theorem ClockInRange.headFailed {s : State} (hs : ClockInRange s) (u : UnitRecord) (f : Failure) :
    ClockInRange (s.headFailed u f) := by
  have hlost : ClockInRange (s.headLost u f) := hs.unitEnded u _ _ _ _
  rw [headFailed_eq]
  split
  · exact hlost.yield u
  · exact ClockInRange.grantDecision (hlost.congr rfl rfl)

theorem ClockInRange.unitOk {s : State} (hs : ClockInRange s) (u : UnitRecord) : ClockInRange (s.unitOk u) := by
  have hgone : ClockInRange (s.setRecord none) := hs.setRecord (by simp)
  obtain ⟨-, h⟩ | ⟨w, -, ⟨-, h⟩ | ⟨-, -, h⟩ | ⟨-, -, h⟩ | ⟨-, -, -, h⟩⟩ := unitOk_cases s u <;> rw [h]
  · exact hgone.yield u
  · exact hgone.tornDownEnd u w
  · rw [drainOk_eq]
    exact (hgone.unitEnded u _ _ _ _).yield u
  · exact hgone.headOk u w
  · exact hgone.yield u

theorem ClockInRange.unitFailed {s : State} (hs : ClockInRange s) (u : UnitRecord) (f : Failure) :
    ClockInRange (s.unitFailed u f) := by
  have hgone : ClockInRange (s.setRecord none) := hs.setRecord (by simp)
  obtain ⟨-, h⟩ | ⟨w, -, ⟨-, h⟩ | ⟨-, -, h⟩ | ⟨-, -, h⟩ | ⟨-, -, -, h⟩⟩ := unitFailed_cases s u f <;> rw [h]
  · exact hgone.yield u
  · exact hgone.tornDownEnd u w
  · rw [drainFailed_eq]
    exact (hgone.unitEnded u _ _ _ _).yield u
  · exact hgone.headFailed u f
  · exact hgone.yield u

theorem ClockInRange.timeout {s : State} (hs : ClockInRange s) (u : UnitRecord) : ClockInRange (s.timeout u) := by
  have hstale : ClockInRange (s.setStale true) := hs.congr rfl rfl
  unfold State.timeout
  split
  · exact hstale.unitFailed u _
  · exact hs.unitFailed u _

/-- A unit that does not time out stays younger than the unit limit (R82, R83). -/
theorem ClockInRange.ageUnit {s : State} (hs : ClockInRange s) : ClockInRange s.ageUnit := by
  obtain ⟨-, hlimit, -, -⟩ := id hs
  obtain h | ⟨u, -, -, ⟨-, h⟩ | ⟨hyoung, h⟩⟩ := ageUnit_cases s <;> rw [h]
  · exact hs
  · exact hs.timeout u
  · refine hs.setRecord ?_
    rintro v ⟨⟩
    exact (hyoung.trans_le hlimit).le

theorem ClockInRange.tick {s : State} (hs : ClockInRange s) : ClockInRange s.tick :=
  ((hs.setDivider (Nat.two_pow_pos _)).of_frame (frame_countdown _) (by simp) (by simp)).ageUnit

/-! ## The blocks that the commands on windows, channels and domains may change -/

theorem openWindow_within (d : DomainId) (t : BitVec 8) (s : State) : Within (openWindow d t s) s [.windows, .domains] := by
  unfold openWindow
  split
  · trivial
  · split
    · trivial
    · split
      · trivial
      · split
        · trivial
        · split
          · trivial
          · split
            · trivial
            · exact ((Frame.setWindow s _ _).mono (by simp)).trans ((Frame.updDomain _ d _).mono (by simp))

theorem releaseWindow_within (d : DomainId) (t : BitVec 8) (s : State) :
    Within (releaseWindow d t s) s [.windows, .causes, .notices, .domains] := by
  unfold releaseWindow
  split
  · trivial
  · split
    · trivial
    · split
      · trivial
      · split
        · trivial
        · exact ((frame_freeWindow s _ _).mono (by simp)).trans ((Frame.updDomain _ d _).mono (by simp))

theorem revokeWindow_within (d : DomainId) (t : BitVec 8) (s : State) :
    Within (revokeWindow d t s) s [.windows, .channels, .causes, .notices] := by
  unfold revokeWindow
  split
  · trivial
  · split
    · trivial
    · split
      · exact frame_revoked (frame_revokeLinked s _ _) d _ _
      · split
        · exact frame_revoked (frame_startDrain s _ _) d _ _
        · exact frame_revoked (frame_revokeActive s _ _) d _ _
      · trivial

theorem rewindWindow_within (d : DomainId) (t : BitVec 8) (s : State) : Within (rewindWindow d t s) s [.windows] := by
  unfold rewindWindow
  split
  · trivial
  · split
    · trivial
    · split
      · trivial
      · exact Frame.setWindow s _ _

theorem amendWindow_within (d : DomainId) (t : BitVec 8) (s : State) :
    Within (amendWindow d t s) s [.windows, .causes, .notices] := by
  unfold amendWindow
  split
  · trivial
  · split
    · trivial
    · split
      · trivial
      · split
        · trivial
        · exact ((frame_moveNotice s _ _ _).mono (by simp)).trans ((Frame.setWindow _ _ _).mono (by simp))

theorem touchWindow_within (d : DomainId) (t : BitVec 8) (s : State) : Within (touchWindow d t s) s [.windows] := by
  unfold touchWindow
  split
  · trivial
  · split
    · trivial
    · exact Frame.setWindow s _ _

theorem disableChannel_within (d : DomainId) (t : BitVec 8) (s : State) :
    Within (disableChannel d t s) s [.windows, .channels] := by
  refine within_onChannel fun c => ?_
  have hchannel := fun f => (Frame.updChannel s c f).mono (m := [.windows, .channels]) (by simp)
  split
  · trivial
  · exact hchannel _
  · exact (hchannel _).trans ((Frame.activateHead _ c).mono (by simp))
  · exact hchannel _
  · exact hchannel _
  · exact hchannel _

theorem cutChain_within (d : DomainId) (t : BitVec 8) (s : State) : Within (cutChain d t s) s [.windows, .channels] := by
  refine within_onChannel fun c => ?_
  dsimp only
  split <;> exact frame_cutChainOf s c

/-- The blocks that the start of a teardown and its completion change. -/
def tornBlocks : List Block := [.windows, .causes, .channels, .domains, .notices, .ports]

theorem tearDown_within (s : State) (ds : DomainId → Bool) (k : Nat → ChannelSet → Waiting) :
    Within (s.tearDown ds k) s tornBlocks := by
  unfold State.tearDown
  dsimp only
  split
  · exact (frame_beginTeardown s ds).trans ((frame_finishDomains _).mono (by simp))
  · exact frame_beginTeardown s ds

theorem closeDomain_within (d : DomainId) (t : BitVec 8) (s : State) : Within (closeDomain d t s) s tornBlocks := by
  refine within_supervisor (within_onDomain fun x => ?_)
  split
  · trivial
  · exact tearDown_within s _ _

/-! ## Every command keeps the ranges -/

section
variable {s : State} (hs : ClockInRange s) (d : DomainId) (t : BitVec 8)
include hs

/-- A command that changes neither the clock nor the memory port. -/
theorem ClockInRange.within {x : Completion} {l : List Block} (hx : Within x s l)
    (hl : Block.clock ∉ l ∧ Block.memory ∉ l) : Keeps ClockInRange x :=
  Keeps.of_within hx fun _ hf => hs.of_frame hf hl.1 hl.2

/-- A channel changed, and the grant decision that follows. -/
theorem ClockInRange.updChannel_grantDecision (c : ChannelId) (f : Channel → Channel) :
    ClockInRange (s.updChannel c f).grantDecision :=
  (hs.of_frame (Frame.updChannel s c f) (by simp) (by simp)).grantDecision

theorem bindWindow_keeps_clock : Keeps ClockInRange (bindWindow d t s) := by
  unfold bindWindow
  split
  · split
    · trivial
    · split
      · trivial
      · exact (hs.of_frame (Frame.setWindow s _ _) (by simp) (by simp)).updChannel_grantDecision _ _
  · trivial

theorem enableChannel_keeps_clock : Keeps ClockInRange (enableChannel d t s) := by
  refine keeps_onChannel fun c => ?_
  split
  · trivial
  · exact hs.updChannel_grantDecision c _

theorem unmaskChannel_keeps_clock : Keeps ClockInRange (unmaskChannel d t s) :=
  keeps_onChannel fun c => hs.updChannel_grantDecision c _

theorem resumeChannel_keeps_clock : Keeps ClockInRange (resumeChannel d t s) := by
  refine keeps_onChannel fun c => ?_
  split
  · trivial
  · have hcleared := hs.of_frame (Frame.updChannel s c fun ch => { ch with stall := none }) (by simp) (by simp)
    exact (hcleared.of_frame (Frame.activateHead _ c) (by simp) (by simp)).updChannel_grantDecision c _

theorem pulseChannel_keeps_clock : Keeps ClockInRange (pulseChannel d t s) := by
  have hpulsed := fun c => hs.updChannel_grantDecision c fun ch => { ch with state := .pending, soft := true }
  refine keeps_onChannel fun c => ?_
  split
  · exact hpulsed c
  · exact hpulsed c
  all_goals trivial

theorem runArbiter_keeps_clock : Keeps ClockInRange (runArbiter d t s) :=
  keeps_supervisor (ClockInRange.grantDecision (hs.congr rfl rfl))

theorem masterClear_keeps_clock : Keeps ClockInRange (masterClear d t s) := by
  have hrun : ClockInRange { s with arbiter := { s.arbiter with run := .run } } := hs.congr rfl rfl
  exact keeps_supervisor (hrun.within (tearDown_within _ _ _) (by decide))

/-- SET CLOCK takes values in range alone, and keeps the divider only beside the exponent it counts to (R103). -/
theorem setClock_keeps_clock : Keeps ClockInRange (setClock d t s) := by
  refine keeps_supervisor ?_
  dsimp only
  split
  · trivial
  · next haccept =>
    obtain ⟨hexp, hlimit⟩ := clockAccepted_iff.mp (by simpa using haccept)
    refine hs.setClock hexp hlimit ?_
    unfold Clock.setTo
    dsimp only
    split
    · next hsame =>
      obtain ⟨-, -, hdiv, -⟩ := hs
      exact hsame.2 ▸ hdiv
    · exact Nat.two_pow_pos _

/-- The block that any code names keeps the ranges. -/
theorem bodyOf_keeps_clock (k : BitVec 8) : Keeps ClockInRange (bodyOf k d t s) := by
  generalize hf : bodyOf k = f
  unfold bodyOf at hf
  split at hf <;> subst hf
  case h_1 => exact hs.within (openWindow_within d t s) (by decide)
  case h_2 => exact hs.within (releaseWindow_within d t s) (by decide)
  case h_3 => exact bindWindow_keeps_clock hs d t
  case h_4 => exact hs.within (revokeWindow_within d t s) (by decide)
  case h_5 => exact hs.within (rewindWindow_within d t s) (by decide)
  case h_6 => exact hs.within (amendWindow_within d t s) (by decide)
  case h_7 => exact hs.within (touchWindow_within d t s) (by decide)
  case h_8 => exact hs.within (readWindow_within d t s) (by decide)
  case h_9 => exact enableChannel_keeps_clock hs d t
  case h_10 => exact hs.within (disableChannel_within d t s) (by decide)
  case h_11 => exact hs.within (maskChannel_within d t s) (by decide)
  case h_12 => exact unmaskChannel_keeps_clock hs d t
  case h_13 => exact hs.within (setChannel_within d t s) (by decide)
  case h_14 => exact hs.within (cutChain_within d t s) (by decide)
  case h_15 => exact resumeChannel_keeps_clock hs d t
  case h_16 => exact pulseChannel_keeps_clock hs d t
  case h_17 => exact hs.within (readChannel_within d t s) (by decide)
  case h_18 => exact hs.within (retireNotice_within d t s) (by decide)
  case h_19 => exact hs.within (retireTop_within d t s) (by decide)
  case h_20 => exact hs.within (setNotices_within d t s) (by decide)
  case h_21 => exact hs.within (openDomain_within d t s) (by decide)
  case h_22 => exact hs.within (closeDomain_within d t s) (by decide)
  case h_23 => exact hs.within (setQuota_within d t s) (by decide)
  case h_24 => exact hs.within (setRange_within d t s) (by decide)
  case h_25 => exact hs.within (clearRange_within d t s) (by decide)
  case h_26 => exact hs.within (assignChannel_within d t s) (by decide)
  case h_27 => exact hs.within (unassignChannel_within d t s) (by decide)
  case h_28 => exact hs.within (setArbiter_within d t s) (by decide)
  case h_29 => exact hs.within (pauseArbiter_within d t s) (by decide)
  case h_30 => exact runArbiter_keeps_clock hs d t
  case h_31 => exact setClock_keeps_clock hs d t
  case h_32 => exact hs.within (readDomain_within d t s) (by decide)
  case h_33 => exact masterClear_keeps_clock hs d t
  case h_34 => trivial

end

/-- A command's completion writes its port alone. -/
theorem ClockInRange.apply {s : State} {x : Completion} (hx : Keeps ClockInRange x) (hs : ClockInRange s) (d : DomainId) :
    ClockInRange (x.apply s d) := by
  cases x with
  | done t r => exact ClockInRange.congr hx rfl rfl
  | refused o => exact hs.congr rfl rfl
  | waits t y => exact ClockInRange.congr hx rfl rfl

/-! ## Every change keeps the ranges -/

theorem Change.keeps_clock {s t : State} (hx : Change s t) (hs : ClockInRange s) : ClockInRange t := by
  obtain ⟨-, -, -, hage⟩ := id hs
  cases hx with
  | unchanged => exact hs
  | command d w =>
    have haccept : ClockInRange (s.accept d w) := hs.congr rfl rfl
    exact .apply (bodyOf_keeps_clock haccept d _ _) haccept d
  | port d f r => exact hs.congr rfl rfl
  | readZero => exact hs.congr rfl rfl
  | deliver d r => exact (hs.of_frame (frame_deliver s d) (by simp) (by simp)).congr rfl rfl
  | pin c b => exact hs.congr rfl rfl
  | request c b =>
    exact (hs.of_frame (frame_setPin s c b) (by simp) (by simp)).updChannel_grantDecision c _
  | busGrant u hr hu =>
    refine hs.setRecord ?_
    rintro v ⟨⟩
    exact hage u hu
  | discard => exact hs.congr rfl rfl
  | unitOk u => exact hs.unitOk u
  | busError u => exact hs.unitFailed u _
  | tick => exact hs.tick
  | expiry h => exact hs.of_frame (frame_expire s [h]) (by simp) (by simp)
  | timeout u => exact hs.timeout u
  | reset => exact ⟨.inl rfl, Nat.zero_le _, Nat.zero_lt_one, fun u hu => nomatch hu⟩
  | release => exact hs.of_frame (frame_resetRelease s) (by simp) (by simp)

end Sys2Proof.Machine

namespace Sys2Proof.Proofs

open Sys2Proof.Machine

/-- Settles O58: every kind of change keeps the ranges, and the divider counts up below its limit alone. -/
theorem clockKept : Obligations.ClockKept :=
  keptByStep_of_change (fun _ _ hs => hs.congr rfl rfl) (fun _ _ hdiv hs => hs.setDivider hdiv)
    fun _ _ hx hs => hx.keeps_clock hs

end Sys2Proof.Proofs

namespace Sys2Proof.Machine

/-! ## The events on the memory bus -/

section
variable {s : State} (hr : s.resetAsserted = false)
include hr

theorem exec_mbgnt : exec .mbgnt s = .next s.busGrant := by
  simp [exec, execMbgnt, State.unlessReset, hr]

theorem exec_strobeEnd : exec .strobeEnd s = .next s.strobeEnd := by
  simp [exec, execStrobeEnd, State.unlessReset, hr]

/-- A completion that ends no cycle is discarded (R75). -/
theorem exec_completion_discarded (hphase : ∀ u, s.memory.record = some u → u.phase ≠ .busCycle) {i : Instr}
    (hi : i ∈ [Instr.mdone, .merr]) : exec i s = .next s.discardCompletion := by
  have discarded (ended : UnitRecord → State) : s.completionTaken ended = s.discardCompletion := by
    unfold State.completionTaken
    split
    · rfl
    · next u hu => exact if_neg (hphase u hu)
  simp only [List.mem_cons, List.not_mem_nil, or_false] at hi
  obtain rfl | rfl := hi
  · simp [exec, execMdone, State.unlessReset, hr, discarded]
  · simp [exec, execMerr, State.unlessReset, hr, discarded]

end

theorem wantsBus_iff {s : State} {u : UnitRecord} :
    s.wantsBus u = true ↔ u.direction ≠ .check ∧ u.phase = .busWait ∧ s.memory.stale = false := by
  simp [State.wantsBus, and_assoc]

theorem busGrant_of_wantsBus {s : State} {u : UnitRecord} (hu : s.memory.record = some u) (hw : s.wantsBus u = true) :
    s.busGrant = s.setRecord (some { u with phase := .busCycle }) := by
  simp [State.busGrant, hu, hw]

theorem busGrant_of_not_wantsBus {s : State} (h : ∀ u, s.memory.record = some u → s.wantsBus u = false) :
    s.busGrant = s := by
  unfold State.busGrant
  split
  · rfl
  · next u hu => simp [h u hu]

theorem strobeEnd_of_no_strobe {s : State} (h : ∀ u, s.memory.record = some u → u.phase ≠ .strobe) :
    s.strobeEnd = s := by
  unfold State.strobeEnd
  split
  · rfl
  · next u hu => exact if_neg (h u hu)

/-- MBREQ is asserted for a bus unit that has not its strobe, while the stale cycle flag is clear (R67). -/
theorem mbreq_of_record {s : State} {u : UnitRecord} (hu : s.memory.record = some u) (hdir : u.direction ≠ .check)
    (hphase : u.phase ≠ .strobe) (hstale : s.memory.stale = false) : s.mbreq = true := by
  simp [State.mbreq, hu, hdir, hphase, hstale]

/-- What an open cycle drives (R67, R69). -/
theorem busLines_of_busCycle {s : State} {u : UnitRecord} (hu : s.memory.record = some u) (hphase : u.phase = .busCycle) :
    s.ma = some u.address ∧ s.mbe = some u.lanes ∧ s.mwr = some (u.direction == .inbound) := by
  simp [State.ma, State.mbe, State.mwr, State.busRecord, hu, hphase]

end Sys2Proof.Machine

namespace Sys2Proof.Proofs

open Sys2Proof.Machine

/-- Settles O44, event by event. -/
theorem busEvents : Obligations.BusEvents := by
  intro s hr
  refine ⟨fun u hu hdir hphase hstale => ?_, fun hnot => ?_, fun hphase i hi => ?_, fun hphase => ?_⟩
  · have hgrant := busGrant_of_wantsBus hu (wantsBus_iff.mpr ⟨hdir, hphase, hstale⟩)
    obtain ⟨hma, hmbe, hmwr⟩ :=
      busLines_of_busCycle (s := s.setRecord (some { u with phase := .busCycle })) rfl rfl
    exact ⟨_, (exec_mbgnt hr).trans (congrArg _ hgrant), rfl, hma, hmbe, hmwr,
      mbreq_of_record (u := { u with phase := .busCycle }) rfl hdir (by simp) hstale, frame_setRecord s _⟩
  · rw [exec_mbgnt hr, busGrant_of_not_wantsBus fun u hu => ?_]
    rw [Bool.eq_false_iff, ne_eq, wantsBus_iff]
    rintro ⟨hdir, hwait, hstale⟩
    obtain h | h | h := hnot u hu
    · exact hdir h
    · exact h hwait
    · simp [hstale] at h
  · exact ⟨_, exec_completion_discarded hr hphase hi, rfl, frame_setStale s false, fun u hu hdir hwait =>
      mbreq_of_record (s := s.discardCompletion) hu hdir (by simp [hwait]) rfl⟩
  · rw [exec_strobeEnd hr, strobeEnd_of_no_strobe hphase]

end Sys2Proof.Proofs

/-! The lease tick: the countdown of the leases with the expiries it brings, then the age of the unit in flight. -/

namespace Sys2Proof.Machine

/-! ## What a raise does to the notice unit (R117) -/

/-- A raise makes the window join this list: it is its domain's and level's, and no cause is pending for it (R117). -/
def State.joins (s : State) (d : DomainId) (l : Level) (h : Handle) : Bool :=
  ((s.window h).any fun w => w.owner == d && w.level == some l) && s.pendingCauses h == 0

theorem raise_pendingCauses {s : State} {y : Handle} {w : Window} (hw : s.window y = some w) (h : Handle) (x : Cause) :
    (s.raise h x).pendingCauses y =
      if y = h ∧ w.level ≠ none then s.pendingCauses y ||| x.flag else s.pendingCauses y := by
  unfold State.raise
  by_cases hy : y = h
  · subst hy
    simp only [hw]
    cases w.level <;> simp
  · split
    · simp [hy]
    · split
      · simp [hy]
      · dsimp only
        split <;> simp [hy]

theorem raise_lists (s : State) (h : Handle) (x : Cause) (d : DomainId) (l : Level) :
    ((s.raise h x).notice d).lists[l] = (s.notice d).lists[l] ++ [h].filter (s.joins d l) := by
  have stays (hn : ¬ s.joins d l h = true) :
      (s.notice d).lists[l] = (s.notice d).lists[l] ++ [h].filter (s.joins d l) := by
    simp [hn]
  cases hw : s.window h with
  | none =>
    rw [State.raise, hw]
    exact stays (by simp [State.joins, hw])
  | some w =>
    cases hl : w.level with
    | none =>
      rw [raise_level_none x hw hl]
      exact stays (by simp [State.joins, hw, hl])
    | some k =>
      have hjoins : s.joins d l h = true ↔ (d = w.owner ∧ l = k) ∧ s.pendingCauses h = 0 := by
        simp [State.joins, hw, hl, eq_comm (a := d), eq_comm (a := l)]
      rw [raise_level_some x hw hl, State.setCauses_notice]
      by_cases hp : s.pendingCauses h = 0
      · rw [if_pos hp, joinList_notice]
        by_cases hd : d = w.owner
        · rw [if_pos hd, updList_lists, ← hd]
          by_cases hk : l = k
          · rw [if_pos hk, List.filter_cons_of_pos (hjoins.mpr ⟨⟨hd, hk⟩, hp⟩), List.filter_nil, hk]
          · rw [if_neg hk]
            exact stays (by simp [hjoins, hk])
        · rw [if_neg hd]
          exact stays (by simp [hjoins, hd])
      · rw [if_neg hp]
        exact stays fun hj => hp (hjoins.mp hj).2

/-- The setup and the in-service table of a notice record (R119, R120). -/
def NoticeRecord.standing (n : NoticeRecord) : BitVec 8 × NoticeMode × Bool × Vector (Option NoticeEntry) 8 :=
  (n.mask, n.mode, n.autoRetire, n.service)

theorem raise_standing (s : State) (h : Handle) (x : Cause) (d : DomainId) :
    ((s.raise h x).notice d).standing = (s.notice d).standing := by
  unfold State.raise
  split
  · rfl
  · next w _ =>
    split
    · rfl
    · dsimp only
      split
      · by_cases hd : d = w.owner <;> simp [hd, NoticeRecord.standing, NoticeRecord.updList]
      · rfl

/-! ## The raises of an expiry, in the order of the handles (R109) -/

theorem foldl_raise_pendingCauses {s : State} {y : Handle} {w : Window} (hw : s.window y = some w) (hs : List Handle)
    (x : Cause) :
    (hs.foldl (fun t h => t.raise h x) s).pendingCauses y =
      if y ∈ hs ∧ w.level ≠ none then s.pendingCauses y ||| x.flag else s.pendingCauses y := by
  induction hs generalizing s with
  | nil => simp
  | cons h hs ih =>
    rw [List.foldl_cons, ih (by rwa [State.raise_window]), raise_pendingCauses hw]
    by_cases hl : w.level = none
    · simp [hl]
    · by_cases hy : y = h <;> by_cases hm : y ∈ hs <;> simp [hl, hy, hm, BitVec.or_assoc]

theorem foldl_raise_lists {hs : List Handle} (hnodup : hs.Nodup) (s : State) (x : Cause) (d : DomainId) (l : Level) :
    ((hs.foldl (fun t h => t.raise h x) s).notice d).lists[l] = (s.notice d).lists[l] ++ hs.filter (s.joins d l) := by
  induction hs generalizing s with
  | nil => simp
  | cons h hs ih =>
    obtain ⟨hh, hnodup⟩ := List.nodup_cons.mp hnodup
    have later : hs.filter ((s.raise h x).joins d l) = hs.filter (s.joins d l) := by
      refine List.filter_congr fun y hy => ?_
      have hyh : y ≠ h := fun he => hh (he ▸ hy)
      unfold State.joins
      rw [State.raise_window]
      cases hw : s.window y with
      | none => rfl
      | some w => rw [raise_pendingCauses hw, if_neg fun hc => hyh hc.1]
    rw [List.foldl_cons, ih hnodup, later, raise_lists, List.append_assoc, ← List.filter_append, List.singleton_append]

theorem foldl_raise_standing (hs : List Handle) (s : State) (x : Cause) (d : DomainId) :
    ((hs.foldl (fun t h => t.raise h x) s).notice d).standing = (s.notice d).standing := by
  induction hs generalizing s with
  | nil => rfl
  | cons h hs ih => rw [List.foldl_cons, ih, raise_standing]

/-! ## The expiry of windows (R109) -/

/-- The windows and channels of an expiry, before its causes are raised. -/
def State.leasesLost (s : State) (hs : List Handle) : State :=
  (s.mapWindows fun h w => if hs.contains h then w.map expiredWindow else w).mapChannels fun _ ch => ch.afterExpiry hs

theorem expire_eq (s : State) (hs : List Handle) :
    s.expire hs = hs.foldl (fun t h => t.raise h .expired) (s.leasesLost hs) := rfl

theorem leasesLost_window (s : State) (hs : List Handle) (h : Handle) :
    (s.leasesLost hs).window h = if h ∈ hs then (s.window h).map expiredWindow else s.window h := by
  simp [State.leasesLost]

theorem frame_leasesLost (s : State) (hs : List Handle) : Frame s (s.leasesLost hs) [.windows, .channels] :=
  ((Frame.mapWindows s _).mono (by simp)).trans ((frame_mapChannels _ _).mono (by simp))

/-- An expired window keeps its owner and its level. -/
theorem leasesLost_joins (s : State) (hs : List Handle) : (s.leasesLost hs).joins = s.joins := by
  have hcauses : (s.leasesLost hs).causes = s.causes := frame_leasesLost s hs .causes (by simp)
  funext d l h
  simp only [State.joins, leasesLost_window, State.pendingCauses, hcauses]
  split
  · cases s.window h <;> rfl
  · rfl

section
variable (s : State) (hs : List Handle)

theorem expire_pendingCauses {h : Handle} {w : Window} (hw : s.window h = some w) :
    (s.expire hs).pendingCauses h =
      if h ∈ hs ∧ w.level ≠ none then s.pendingCauses h ||| Cause.flag .expired else s.pendingCauses h := by
  have hlost : ∃ v, (s.leasesLost hs).window h = some v ∧ v.level = w.level := by
    rw [leasesLost_window, hw]
    split
    · exact ⟨_, rfl, rfl⟩
    · exact ⟨w, rfl, rfl⟩
  obtain ⟨v, hv, hlevel⟩ := hlost
  have hcauses : (s.leasesLost hs).causes = s.causes := frame_leasesLost s hs .causes (by simp)
  rw [expire_eq, foldl_raise_pendingCauses hv, hlevel]
  simp only [State.pendingCauses, hcauses]

theorem expire_lists (hnodup : hs.Nodup) (d : DomainId) (l : Level) :
    ((s.expire hs).notice d).lists[l] = (s.notice d).lists[l] ++ hs.filter (s.joins d l) := by
  have hnotices : (s.leasesLost hs).notices = s.notices := frame_leasesLost s hs .notices (by simp)
  rw [expire_eq, foldl_raise_lists hnodup, leasesLost_joins]
  simp only [State.notice, hnotices]

theorem expire_standing (d : DomainId) : ((s.expire hs).notice d).standing = (s.notice d).standing := by
  have hnotices : (s.leasesLost hs).notices = s.notices := frame_leasesLost s hs .notices (by simp)
  rw [expire_eq, foldl_raise_standing]
  simp only [State.notice, hnotices]

end

/-! ## The lease countdown (R106, R107) -/

theorem mem_expiring {s : State} {h : Handle} : h ∈ handles.filter s.expires ↔ s.expires h = true := by
  simp [handles]

theorem nodup_expiring (s : State) : (handles.filter s.expires).Nodup := (List.nodup_finRange 64).filter _

/-- A window whose lease falls keeps its owner and its level. -/
theorem lowered_joins (s : State) : (s.mapWindows (lowered s)).joins = s.joins := by
  funext d l h
  simp only [State.joins, State.mapWindows_window, State.mapWindows_pendingCauses, lowered]
  split
  · cases s.window h <;> rfl
  · rfl

section
variable (s : State)

theorem countdown_pendingCauses {h : Handle} {w : Window} (hw : s.window h = some w) :
    s.countdown.pendingCauses h =
      if s.expires h = true ∧ w.level ≠ none then s.pendingCauses h ||| Cause.flag .expired else s.pendingCauses h := by
  have hlow : ∃ v, (s.mapWindows (lowered s)).window h = some v ∧ v.level = w.level := by
    rw [State.mapWindows_window, hw, lowered]
    split
    · exact ⟨_, rfl, rfl⟩
    · exact ⟨w, rfl, rfl⟩
  obtain ⟨v, hv, hlevel⟩ := hlow
  rw [countdown_eq, expire_pendingCauses _ _ hv, hlevel]
  simp only [mem_expiring, State.mapWindows_pendingCauses]

theorem countdown_lists (d : DomainId) (l : Level) :
    (s.countdown.notice d).lists[l] = (s.notice d).lists[l] ++ handles.filter fun h => s.expires h && s.joins d l h := by
  rw [countdown_eq, expire_lists _ _ (nodup_expiring s), lowered_joins, State.mapWindows_notice, List.filter_filter]
  simp only [Bool.and_comm]

theorem countdown_standing (d : DomainId) : (s.countdown.notice d).standing = (s.notice d).standing := by
  rw [countdown_eq, expire_standing, State.mapWindows_notice]

theorem countdown_channel_of_head {c : ChannelId} {h : Handle} (hx : s.expires h = true)
    (hh : (s.channel c).chain.head? = some h) (hst : (s.channel c).state = .armed ∨ (s.channel c).state = .pending) :
    s.countdown.channel c = (s.channel c).expiredHead h := by
  rw [countdown_eq, expire_channel_of_head (s := s.mapWindows (lowered s)) (mem_expiring.mpr hx)] <;>
    simp only [State.mapWindows_channel, hh, hst]

theorem countdown_channel_other {c : ChannelId} (hx : ∀ h, (s.channel c).chain.head? = some h → s.expires h = false) :
    s.countdown.channel c = s.channel c := by
  rw [countdown_eq, expire_channel_other, State.mapWindows_channel]
  rintro ⟨h, hm, hh, -⟩
  rw [State.mapWindows_channel] at hh
  rw [mem_expiring, hx h hh] at hm
  cases hm

/-- A window at a countdown, by what R106 and R107 say of its lease. -/
theorem countdown_window_of_live {h : Handle} {w : Window} (hw : s.window h = some w) :
    (¬ LeaseRuns s w → s.countdown.window h = some w) ∧
    (LeaseRuns s w → 2 ≤ w.lease → s.countdown.window h = some { w with lease := w.lease - 1 }) ∧
    (LeaseRuns s w → w.lease ≤ 1 → s.countdown.window h = some (expiredWindow w)) := by
  have hcounts : s.leaseCounts h = true ↔ LeaseRuns s w := by simp [leaseCounts_iff, hw]
  have hexpires : s.expires h = true ↔ LeaseRuns s w ∧ w.lease ≤ 1 := by simp [expires_iff, LeaseRunsOut, hw]
  rw [countdown_window, hw]
  refine ⟨fun hn => ?_, fun hr h2 => ?_, fun hr h1 => ?_⟩
  · rw [if_neg fun hx => hn (hexpires.mp hx).1, if_neg fun hc => hn (hcounts.mp hc)]
  · rw [if_neg fun hx => absurd (hexpires.mp hx).2 (by omega), if_pos (hcounts.mpr hr)]
    rfl
  · rw [if_pos (hexpires.mpr ⟨hr, h1⟩)]
    rfl

/-- The state a tick counts its leases down in: the divider starts again (R104). -/
def State.restarted (s : State) : State := { s with clock := { s.clock with divider := 0 } }

theorem tick_eq : s.tick = s.restarted.countdown.ageUnit := rfl

/-- The countdown of a tick does all that R104, R106, R107 and R109 say. -/
theorem countedDown_restarted {out : Handle → Bool} (hout : ∀ h, out h = true ↔ LeaseRunsOut s h) :
    CountedDown s s.restarted.countdown out := by
  obtain rfl : s.restarted.expires = out := funext fun h => by
    rw [Bool.eq_iff_iff, hout]
    exact expires_iff (s := s.restarted)
  have hframe := frame_countdown s.restarted
  refine ⟨fun h => ⟨fun hw => ?_, fun w hw => ?_⟩, fun c => ⟨fun h hh hx hst => ?_, fun hx => ?_⟩, fun d l => ?_,
    fun d => ?_, hframe .clock (by simp), ?_⟩
  · have hfree : s.restarted.window h = none := hw
    simp [countdown_window, hfree]
  · obtain ⟨hstands, hfalls, hfails⟩ := countdown_window_of_live s.restarted hw
    exact ⟨hstands, hfalls, hfails, countdown_pendingCauses s.restarted hw⟩
  · exact countdown_channel_of_head s.restarted hx hh hst
  · exact countdown_channel_other s.restarted hx
  · rw [countdown_lists]
    simp only [State.joins, ← Bool.and_assoc]
    rfl
  · have hstand := countdown_standing s.restarted d
    simp only [NoticeRecord.standing, Prod.mk.injEq] at hstand
    obtain ⟨hmask, hmode, hretire, hservice⟩ := hstand
    exact ⟨hservice, hmask, hmode, hretire⟩
  · exact (Frame.clock s _).mono (by simp) |>.trans (hframe.mono (by simp))

end

/-! ## The memory port's share of a tick (R82, R83) -/

section
variable {s : State}

theorem ages_iff {u : UnitRecord} : s.ages u = true ↔ UnitAges s u := by
  simp [State.ages, UnitAges]

theorem ageUnit_of_not_ages (h : ∀ u, s.memory.record = some u → ¬ UnitAges s u) : s.ageUnit = s := by
  unfold State.ageUnit
  split
  · rfl
  · next u hu => rw [if_neg (ages_iff.not.mpr (h u hu))]

theorem ageUnit_of_young {u : UnitRecord} (hu : s.memory.record = some u) (ha : UnitAges s u)
    (hyoung : u.age + 1 < s.clock.unitLimit) : s.ageUnit = s.setRecord (some { u with age := u.age + 1 }) := by
  simp [State.ageUnit, hu, ages_iff.mpr ha, hyoung]

theorem ageUnit_of_old {u : UnitRecord} (hu : s.memory.record = some u) (ha : UnitAges s u)
    (hold : s.clock.unitLimit ≤ u.age + 1) : s.ageUnit = s.timeout u := by
  simp [State.ageUnit, hu, ages_iff.mpr ha, hold]

theorem timesOut_iff {u : UnitRecord} : s.timesOut u = true ↔ UnitAges s u ∧ s.clock.unitLimit ≤ u.age + 1 := by
  simp [State.timesOut, ages_iff]

theorem unitTimeout_of_timesOut {u : UnitRecord} (hu : s.memory.record = some u) (ht : s.timesOut u = true) :
    s.unitTimeout = s.timeout u := by
  simp [State.unitTimeout, hu, ht]

theorem unitTimeout_of_none (h : ∀ u, s.memory.record = some u → s.timesOut u = false) : s.unitTimeout = s := by
  unfold State.unitTimeout
  split
  · rfl
  · next u hu => simp [h u hu]

/-! ## A tick and its shares as commands -/

theorem tickDelivered_of_stopped (h : s.clock.exponent = 0) : s.tickDelivered = false := by
  simp [State.tickDelivered, h]

section
variable (hd : s.tickDelivered = false)
include hd

theorem exec_leaseTick_of_no_tick : exec .leaseTick s = .next s := by
  simp [exec, execLeaseTick, hd]

theorem exec_leaseExpiry_of_no_tick (h : Handle) : exec (.leaseExpiry h) s = .next s := by
  simp [exec, execLeaseExpiry, hd]

theorem exec_unitTimeout_of_no_tick : exec .unitTimeout s = .next s := by
  simp [exec, execUnitTimeout, hd]

end

theorem exec_leaseExpiry_none {h : Handle} (hx : s.expires h = false) : exec (.leaseExpiry h) s = .next s := by
  simp [exec, execLeaseExpiry, hx]

variable (hd : s.tickDelivered = true)
include hd

theorem exec_leaseTick : exec .leaseTick s = .next s.tick := by
  simp [exec, execLeaseTick, hd]

theorem exec_leaseExpiry {h : Handle} (hx : s.expires h = true) : exec (.leaseExpiry h) s = .next (s.expire [h]) := by
  simp [exec, execLeaseExpiry, hd, hx]

theorem exec_unitTimeout : exec .unitTimeout s = .next s.unitTimeout := by
  simp [exec, execUnitTimeout, hd]

end

end Sys2Proof.Machine

namespace Sys2Proof.Proofs

open Sys2Proof.Machine

/-- Settles O50: the tick is the countdown with the divider restarted, and then the memory port's share of it. -/
theorem leaseTick : Obligations.LeaseTick := by
  intro s out hr he hout
  have hframe := frame_countdown s.restarted
  have hmem : s.restarted.countdown.memory = s.memory := hframe .memory (by simp)
  have hclock : s.restarted.countdown.clock = s.restarted.clock := hframe .clock (by simp)
  have hexec := exec_leaseTick (tickDelivered_iff.mpr ⟨hr, he⟩)
  have hages (u : UnitRecord) : UnitAges s.restarted.countdown u ↔ UnitAges s u := by
    unfold UnitAges
    rw [hclock]
    rfl
  refine ⟨_, countedDown_restarted s hout, fun hnot => ?_, fun u hu ha => ⟨fun hyoung => ?_, fun hold => ?_⟩⟩
  · rw [hexec, tick_eq, ageUnit_of_not_ages fun u hu => (hages u).not.mpr (hnot u (hmem ▸ hu))]
  · rw [hexec, tick_eq, ageUnit_of_young (hmem ▸ hu) ((hages u).mpr ha) (hclock ▸ hyoung), State.setRecord, hmem]
  · have hu' : s.restarted.countdown.memory.record = some u := hmem ▸ hu
    have hold' : s.restarted.countdown.clock.unitLimit ≤ u.age + 1 := hclock ▸ hold
    have ha' := (hages u).mpr ha
    have hreset : s.restarted.countdown.resetAsserted = false := (hframe .resetLine (by simp)).trans hr
    have hrun : s.restarted.countdown.clock.exponent ≠ 0 := hclock ▸ he
    rw [hexec, tick_eq, ageUnit_of_old hu' ha' hold', exec_unitTimeout (tickDelivered_iff.mpr ⟨hreset, hrun⟩),
      unitTimeout_of_timesOut hu' (timesOut_iff.mpr ⟨ha', hold'⟩)]

end Sys2Proof.Proofs

namespace Sys2Proof.Machine

/-! ## The expiry of one window (R109) -/

/-- An ACTIVE window heads the one chain it stands on (R9, R35). -/
theorem active_heads {s : State} (hs : ChainsAgree s) {h : Handle} {w : Window} (hw : s.window h = some w)
    (hst : w.state = .active) {c : ChannelId} (hc : w.channel = some c) :
    (s.channel c).chain.head? = some h ∧ ∀ x, (s.channel x).chain.head? = some h → x = c := by
  obtain ⟨hchains, hwindows⟩ := hs
  have member {x : ChannelId} (hm : h ∈ (s.channel x).chain) :
      w.channel = some x ∧ (s.channel x).chain.head? = some h := by
    obtain ⟨-, hmembers⟩ := hchains x
    obtain ⟨v, hv, -, hx, -, hhead⟩ := hmembers h hm
    rw [Option.mem_def, hw] at hv
    cases hv
    exact ⟨hx, hhead hst⟩
  obtain ⟨y, hy, hm⟩ := hwindows h w hw (by simp [hst, WindowState.onChain])
  rw [Option.mem_def, hc] at hy
  cases hy
  obtain ⟨-, hhead⟩ := member hm
  refine ⟨hhead, fun x hx => ?_⟩
  obtain ⟨hwx, -⟩ := member (List.mem_of_head? hx)
  rw [hc] at hwx
  cases hwx
  rfl

theorem expire_one_notices (s : State) (h : Handle) : NoticesAfter s (s.expire [h]) h (some .expired) := by
  have hframe := frame_leasesLost s [h]
  rw [expire_eq, List.foldl_cons, List.foldl_nil]
  refine raise_congr (t := s.leasesLost [h]) .expired ?_ (hframe .causes (by simp)) (hframe .notices (by simp))
  rw [leasesLost_window, if_pos (List.mem_singleton_self h), Option.map_map]
  rfl

end Sys2Proof.Machine

namespace Sys2Proof.Proofs

open Sys2Proof.Machine

/-- Settles O51: the window of an expiry heads its channel alone, so no other channel stalls. -/
theorem tickShares : Obligations.TickShares := by
  intro s hr
  refine ⟨fun h w c he hs hw hout hc => ?_, fun h hnot => ?_, fun hnot => ?_, fun he => ?_⟩
  · obtain ⟨v, hv, ⟨hst, -, x, hx, hch, -⟩, -⟩ := id hout
    rw [hw] at hv
    cases hv
    rw [hc] at hx
    cases hx
    obtain ⟨hhead, honly⟩ := active_heads hs hw hst hc
    refine ⟨_, exec_leaseExpiry (tickDelivered_iff.mpr ⟨hr, he⟩) (expires_iff.mpr hout), ?_, fun y hy => ?_,
      expire_channel_of_head (List.mem_singleton_self h) hhead hch, fun y hy => expire_channel_other ?_,
      expire_one_notices s h, (frame_expire s [h]).mono (by simp)⟩
    · rw [expire_window, if_pos (List.mem_singleton_self h), hw]
      rfl
    · rw [expire_window, if_neg (by simpa using hy)]
    · rintro ⟨z, hz, hzhead, -⟩
      rw [List.mem_singleton] at hz
      exact hy (honly y (hz ▸ hzhead))
  · obtain he | hx := hnot
    · exact exec_leaseExpiry_of_no_tick (tickDelivered_of_stopped he) h
    · exact exec_leaseExpiry_none (Bool.eq_false_iff.mpr fun ht => hx (expires_iff.mp ht))
  · by_cases he : s.clock.exponent = 0
    · exact exec_unitTimeout_of_no_tick (tickDelivered_of_stopped he)
    · rw [exec_unitTimeout (tickDelivered_iff.mpr ⟨hr, he⟩), unitTimeout_of_none fun u hu => ?_]
      rw [Bool.eq_false_iff, ne_eq, timesOut_iff]
      rintro ⟨ha, hold⟩
      obtain hn | hyoung := hnot.resolve_left he u hu
      · exact hn ha
      · omega
  · exact exec_leaseTick_of_no_tick (tickDelivered_of_stopped he)

end Sys2Proof.Proofs

/-! REVOKE WINDOW of a window that leaves its chain without a new ACTIVE head (R88, R90): a LINKED window is PARKED at once, and
a head whose unit is in flight drains. -/

namespace Sys2Proof.Machine

theorem revokeWindow_linked {s : State} {d : DomainId} {t : BitVec 8} {h : Handle} {w : Window} {c : ChannelId}
    (hl : s.liveWindow t = some (h, w)) (ho : w.owner = d ∨ d = 0) (hc : w.channel = some c) (hst : w.state = .linked) :
    revokeWindow d t s =
      .done ((s.revokeLinked h c).raiseOverride d h w) (words (stateAndRemaining w.parkedOff) 0 0 0) := by
  have hn : ¬ (w.owner ≠ d ∧ d ≠ 0) := fun hh => ho.elim hh.1 hh.2
  simp [revokeWindow, hl, hn, hst, hc]

theorem revokeWindow_inFlight {s : State} {d : DomainId} {t : BitVec 8} {h : Handle} {w : Window} {c : ChannelId}
    (hl : s.liveWindow t = some (h, w)) (ho : w.owner = d ∨ d = 0) (hc : w.channel = some c) (hst : w.state = .active)
    (hf : s.inFlight h = true) :
    revokeWindow d t s = .waits ((s.startDrain h c).raiseOverride d h w) (.revoke h) := by
  have hn : ¬ (w.owner ≠ d ∧ d ≠ 0) := fun hh => ho.elim hh.1 hh.2
  simp [revokeWindow, hl, hn, hst, hc, hf]

/-- An accepted command whose block changes one window and takes it off one chain: that window, that chain, and all that it
leaves. -/
theorem unlink_changes {s : State} {h : Handle} {w : Window} (hw : s.window h = some w) (d : DomainId) (word : Word)
    (c : ChannelId) (f : Window → Window) (g : Port → Port) {m : State}
    (hm : m = (((s.accept d word).updWindow h f).unlink c h).updPort d g) :
    m.window h = some (f w) ∧ OnlyWindow s m h ∧
      m.channel c = { s.channel c with chain := (s.channel c).chain.filter fun x => x != h } ∧ OnlyChannel s m c ∧
      Frame s m [.windows, .channels, .ports] := by
  subst hm
  exact ⟨by simp [hw], fun x hx => by simp [hx], by simp [State.unlink], fun x hx => by simp [State.unlink, hx],
    Frame.wait (by simp) (((Frame.updWindow _ h f).mono (by simp)).trans ((Frame.unlink _ c h).mono (by simp)))⟩

end Sys2Proof.Machine

namespace Sys2Proof.Proofs

open Sys2Proof.Machine

/-- Settles O10: either form changes the window's record and takes it off its chain; they differ in the record written and in
whether the port completes or waits. -/
theorem revokeLeavesChain : Obligations.RevokeLeavesChain := by
  intro s a d tgt up h w c hA ht hw ho hc
  have hl := liveWindow_accept ht hw d (commandWord 0x13 tgt up)
  refine ⟨fun hst => ?_, fun hst hf => ?_⟩
  · have hexec := exec_done (i := .revokeWindow a tgt up) hA rfl (revokeWindow_linked hl ho hc hst)
    rw [State.complete, raiseOverride_updPort] at hexec
    exact ⟨_, hexec, answers_complete _ _ (frame_revokeLinked _ h c .ports (by simp)), unlink_changes hw _ _ c _ _ rfl⟩
  · have hexec := exec_waits (i := .revokeWindow a tgt up) hA rfl (revokeWindow_inFlight hl ho hc hst hf)
    rw [raiseOverride_updPort] at hexec
    exact ⟨_, hexec, startsWait_updPort _ (frame_startDrain _ h c .ports (by simp)), unlink_changes hw _ _ c _ _ rfl⟩

end Sys2Proof.Proofs

/-! The remaining refusals of the supervisor commands, and the CLK period that passes on an empty queue. -/

namespace Sys2Proof.Machine

/-! ## What a supervisor command names (R139, R164) -/

theorem supervisor_zero (k : Completion) : supervisor 0 k = k := if_pos rfl

theorem onDomain_badHandle {t : BitVec 8} (ht : 4 ≤ t.toNat) (k : DomainId → Completion) :
    onDomain t k = .refused .badHandle := by
  rw [onDomain, index?_eq_none.mpr ht]

theorem onDomain_of_val {t : BitVec 8} {x : DomainId} (ht : t.toNat = x.val) (k : DomainId → Completion) :
    onDomain t k = k x := by
  rw [onDomain, index?_eq_some.mpr ht]

theorem onSlot_badHandle {w : Word} (hw : 4 ≤ bits w 0 8) (k : SlotId → Completion) :
    onSlot w k = .refused .badHandle := by
  rw [onSlot, index?_eq_none.mpr hw]

/-! ## The supervisor commands, by their checks in their order (R163) -/

section
variable {s : State} {t : BitVec 8}

theorem closeDomain_badHandle (ht : 4 ≤ t.toNat) : closeDomain 0 t s = .refused .badHandle :=
  (supervisor_zero _).trans (onDomain_badHandle ht _)

theorem closeDomain_state {x : DomainId} (ht : t.toNat = x.val) (hx : x = 0 ∨ (s.domain x).state ≠ .opened) :
    closeDomain 0 t s = .refused .state := by
  rw [closeDomain, supervisor_zero, onDomain_of_val ht, if_pos hx]

/-- READ DOMAIN past its check of the caller (R139). -/
theorem readDomain_allowed {d : DomainId} (hd : d = 0 ∨ t.toNat = d.val) :
    readDomain d t s = onDomain t fun x => onSlot (s.taken d)[0] fun i => .done s (domainResults s x i) :=
  if_neg fun ⟨h0, ht⟩ => hd.elim h0 ht

theorem readDomain_badHandle (ht : 4 ≤ t.toNat) : readDomain 0 t s = .refused .badHandle := by
  rw [readDomain_allowed (.inl rfl), onDomain_badHandle ht]

/-- A slot of 4 or more is refused whatever domain the target names: one of 4 or more has the same refusal. -/
theorem readDomain_badSlot {d : DomainId} (hd : d = 0 ∨ t.toNat = d.val) (hi : 4 ≤ bits (s.taken d)[0] 0 8) :
    readDomain d t s = .refused .badHandle := by
  rw [readDomain_allowed hd, onDomain]
  split
  · rfl
  · exact onSlot_badHandle hi _

theorem assignChannel_badChannel (ht : 12 ≤ t.toNat) : assignChannel 0 t s = .refused .badHandle := by
  rw [assignChannel, supervisor_zero, index?_eq_none.mpr ht]

theorem assignChannel_badDomain (hx : 4 ≤ bits (s.taken 0)[0] 0 8) : assignChannel 0 t s = .refused .badHandle := by
  rw [assignChannel, supervisor_zero, index?_eq_none.mpr hx]
  cases index? 12 t.toNat <;> rfl

theorem unassignChannel_badChannel (ht : 12 ≤ t.toNat) : unassignChannel 0 t s = .refused .badHandle := by
  rw [unassignChannel, supervisor_zero, index?_eq_none.mpr ht]

theorem setClock_bad
    (hbad : ¬ (bits (s.taken 0)[0] 0 8 = 0 ∨ (8 ≤ bits (s.taken 0)[0] 0 8 ∧ bits (s.taken 0)[0] 0 8 ≤ 24)) ∨
      15 < bits (s.taken 0)[0] 8 8) : setClock 0 t s = .refused .badValue := by
  have hn : clockAccepted (bits (s.taken 0)[0] 0 8) (bits (s.taken 0)[0] 8 8) = false := by
    rw [Bool.eq_false_iff, ne_eq, clockAccepted_iff]
    rintro ⟨hexp, hlim⟩
    exact hbad.elim (absurd hexp) (absurd hlim ∘ Nat.not_le_of_gt)
  exact (supervisor_zero _).trans (if_pos hn)

variable {c : ChannelId} (ht : t.toNat = c.val)
include ht

theorem assignChannel_named {x : DomainId} (hx : bits (s.taken 0)[0] 0 8 = x.val) :
    assignChannel 0 t s =
      if (s.domain x).state ≠ .opened then .refused .state
      else if (s.channel c).owner ≠ none then .refused .inUse
      else .done (s.updChannel c fun ch => { ch with owner := some x }) noResults := by
  rw [assignChannel, supervisor_zero, index?_eq_some.mpr ht, index?_eq_some.mpr hx]

theorem unassignChannel_unowned (ho : (s.channel c).owner = none) : unassignChannel 0 t s = .refused .state := by
  rw [unassignChannel, supervisor_zero, index?_eq_some.mpr ht]
  dsimp only
  rw [ho]

theorem unassignChannel_inUse (ho : (s.channel c).owner ≠ none)
    (hbusy : (s.channel c).state ≠ .off ∨ (s.channel c).chain ≠ []) : unassignChannel 0 t s = .refused .inUse := by
  obtain ⟨x, hx⟩ := Option.ne_none_iff_exists'.mp ho
  rw [unassignChannel, supervisor_zero, index?_eq_some.mpr ht]
  dsimp only
  rw [hx]
  exact if_pos hbusy

end

/-! ## A CLK period (R104, R179) -/

theorem step_of_empty {s : State} (hq : s.pending = []) : step s = .next s.clkPeriod := by
  rw [step, hq]

section
variable {s : State}

theorem clkPeriod_of_stopped (h : s.resetAsserted = true ∨ s.clock.exponent = 0) : s.clkPeriod = s := if_pos h

variable (hr : s.resetAsserted = false) (he : s.clock.exponent ≠ 0)
include hr he

theorem clkPeriod_of_running :
    s.clkPeriod =
      if 2 ^ s.clock.exponent ≤ s.clock.divider + 1 then s.tick
      else { s with clock := { s.clock with divider := s.clock.divider + 1 } } :=
  if_neg fun h => h.elim (by simp [hr]) he

theorem clkPeriod_of_counting (hl : s.clock.divider + 1 < 2 ^ s.clock.exponent) :
    s.clkPeriod = { s with clock := { s.clock with divider := s.clock.divider + 1 } } :=
  (clkPeriod_of_running hr he).trans (if_neg (Nat.not_le_of_gt hl))

theorem clkPeriod_of_counted (hl : 2 ^ s.clock.exponent ≤ s.clock.divider + 1) : s.clkPeriod = s.tick :=
  (clkPeriod_of_running hr he).trans (if_pos hl)

end

end Sys2Proof.Machine

namespace Sys2Proof.Proofs

open Sys2Proof.Machine

/-- Settles O33, command by command: each clause is a refusal of the command's block on the state at acceptance. -/
theorem supervisorRefusals : Obligations.SupervisorRefusals := by
  have read : ∀ {s a d tgt up o}, Admits s a d →
      Machine.readDomain d tgt (s.accept d (commandWord 0x4B tgt up)) = .refused o →
      Refused s (.readDomain a tgt up) d o := fun hA hb => refused_of hA rfl rfl hb
  refine ⟨fun s a d tgt up hA ht hi => read hA (readDomain_badSlot (.inr ht) (by rwa [taken_accept])), ?_⟩
  rintro s a tgt up _ hA rfl
  have close : ∀ {o}, Machine.closeDomain 0 tgt (s.accept 0 (commandWord 0x41 tgt up)) = .refused o →
      Refused s (.closeDomain a tgt up) 0 o := fun hb => refused_of hA rfl rfl hb
  have assign : ∀ {o}, assignChannel 0 tgt (s.accept 0 (commandWord 0x45 tgt up)) = .refused o →
      Refused s (.assignChannel a tgt up) 0 o := fun hb => refused_of hA rfl rfl hb
  have unassign : ∀ {o}, unassignChannel 0 tgt (s.accept 0 (commandWord 0x46 tgt up)) = .refused o →
      Refused s (.unassignChannel a tgt up) 0 o := fun hb => refused_of hA rfl rfl hb
  refine ⟨fun ht => ⟨close (closeDomain_badHandle ht), read hA (readDomain_badHandle ht)⟩,
    fun ht => ⟨assign (assignChannel_badChannel ht), unassign (unassignChannel_badChannel ht)⟩,
    fun hp => ⟨read hA (readDomain_badSlot (.inl rfl) (by rwa [taken_accept])),
      assign (assignChannel_badDomain (by rwa [taken_accept]))⟩,
    fun hbad => refused_of hA rfl rfl (setClock_bad (by rwa [taken_accept])),
    fun x ht hx => close (closeDomain_state ht (by rwa [State.accept_domain])), fun c ht => ⟨fun x hp => ?_,
      fun ho => unassign (unassignChannel_unowned ht (by rwa [State.accept_channel])),
      fun ho hbusy => unassign (unassignChannel_inUse ht (by rwa [State.accept_channel])
        (by rwa [State.accept_channel]))⟩⟩
  have hnamed := assignChannel_named (s := s.accept 0 (commandWord 0x45 tgt up)) ht (x := x) (by rwa [taken_accept])
  rw [State.accept_domain, State.accept_channel] at hnamed
  exact ⟨fun hst => assign (hnamed.trans (if_pos hst)),
    fun hst ho => assign (hnamed.trans ((if_neg (not_not_intro hst)).trans (if_pos ho)))⟩

/-- Settles O2, by the three cases of a CLK period. -/
theorem idlePeriod : Obligations.IdlePeriod := by
  intro s hq
  rw [step_of_empty hq]
  refine ⟨fun h => by rw [clkPeriod_of_stopped h], fun hr he hl => by rw [clkPeriod_of_counting hr he hl],
    fun hr he hl => ?_⟩
  rw [clkPeriod_of_counted hr he hl, exec_leaseTick (tickDelivered_iff.mpr ⟨hr, he⟩)]

end Sys2Proof.Proofs

namespace Sys2Proof.Machine

/-! ## The next notice of a domain (R121, R123) -/

/-- What one level offers for delivery: the head of its list, where the level is open (R121, R123). -/
def NoticeRecord.offer (n : NoticeRecord) (l : Level) : Option (Level × Handle) :=
  if n.admits l then (n.lists[l]).head?.map fun h => (l, h) else none

theorem next_eq (n : NoticeRecord) : n.next = (List.finRange 8).findSome? n.offer := rfl

theorem offer_eq_some {n : NoticeRecord} {l k : Level} {h : Handle} :
    n.offer l = some (k, h) ↔ LevelOpen n l ∧ (n.lists[l]).head? = some h ∧ k = l := by
  rw [← admits_iff, NoticeRecord.offer]
  split
  · next ha => simp [ha, eq_comm (a := k)]
  · next ha => simp [ha]

theorem offer_eq_none {n : NoticeRecord} {l : Level} : n.offer l = none ↔ ¬ LevelOpen n l ∨ n.lists[l] = [] := by
  rw [← admits_iff, NoticeRecord.offer]
  split
  · next ha => simp [ha]
  · next ha => simp [ha]

theorem next_eq_none {n : NoticeRecord} : n.next = none ↔ ∀ l : Level, ¬ LevelOpen n l ∨ n.lists[l] = [] := by
  simp only [next_eq, List.findSome?_eq_none_iff, List.mem_finRange, true_implies, offer_eq_none]

/-- The next notice is the head of the most urgent open level that has one (R123). -/
theorem next_eq_some {n : NoticeRecord} {l : Level} {h : Handle} :
    n.next = some (l, h) ↔ LevelOpen n l ∧ (n.lists[l]).head? = some h ∧
      ∀ k : Level, k < l → ¬ LevelOpen n k ∨ n.lists[k] = [] := by
  rw [next_eq]
  constructor
  · intro hn
    obtain ⟨i, hi, hbefore⟩ := first_of_findSome_finRange hn
    obtain ⟨hopen, hhead, rfl⟩ := offer_eq_some.mp hi
    exact ⟨hopen, hhead, fun k hk => offer_eq_none.mp (hbefore k hk)⟩
  · rintro ⟨hopen, hhead, hbefore⟩
    exact findSome_finRange (offer_eq_some.mpr ⟨hopen, hhead, rfl⟩) fun k hk => offer_eq_none.mpr (hbefore k hk)

/-! ## The delivery of a notice (R124) -/

theorem deliver_of_none {s : State} {d : DomainId} (h : (s.notice d).next = none) : s.deliver d = s := by
  rw [State.deliver, h]

/-- The delivery of a notice withdraws it and, without auto-retire, makes its level's entry. -/
theorem deliver_of_next {s : State} {d : DomainId} {l : Level} {h : Handle} (hn : (s.notice d).next = some (l, h)) :
    s.deliver d =
      if (s.notice d).autoRetire then (s.leaveList d l h).setCauses h 0
      else ((s.leaveList d l h).setCauses h 0).updNotice d fun n =>
        n.setEntry l (some { window := h, causes := s.pendingCauses h }) := by
  rw [State.deliver, hn]

end Sys2Proof.Machine

namespace Sys2Proof.Machine

/-! ## What the agreement of R119 depends on -/

/-- Where the notices of a handle go: its owner and its level, while it is live (R6, R117). -/
def State.addressee (s : State) (h : Handle) : Option (DomainId × Option Level) :=
  (s.window h).map fun w => (w.owner, w.level)

theorem addressee_eq_some {s : State} {h : Handle} {d : DomainId} {o : Option Level} :
    s.addressee h = some (d, o) ↔ ∃ w, s.window h = some w ∧ w.owner = d ∧ w.level = o := by
  simp [State.addressee]

theorem addressee_of_window {s : State} {h : Handle} {w : Window} (hw : s.window h = some w) :
    s.addressee h = some (w.owner, w.level) := by
  simp [State.addressee, hw]

/-- The agreement of R119, each list said by its members: a handle stands in a list exactly when it has pending causes and its
notices go there. -/
structure NoticesStand (s : State) : Prop where
  addressed : ∀ h, s.pendingCauses h ≠ 0 → ∃ d l, s.addressee h = some (d, some l)
  nodup : ∀ (d : DomainId) (l : Level), ((s.notice d).lists[l]).Nodup
  listed : ∀ (d : DomainId) (l : Level) (h : Handle),
    h ∈ (s.notice d).lists[l] ↔ s.pendingCauses h ≠ 0 ∧ s.addressee h = some (d, some l)
  served : ∀ (d : DomainId) (l : Level) (e : NoticeEntry), (s.notice d).service[l] = some e →
    e.causes ≠ 0 ∧ s.addressee e.window = some (d, some l)

theorem noticesAgree_iff {s : State} : NoticesAgree s ↔ NoticesStand s := by
  have live (h : Handle) (d : DomainId) (l : Level) :
      (∃ w ∈ s.window h, w.owner = d ∧ w.level = some l) ↔ s.addressee h = some (d, some l) :=
    addressee_eq_some.symm
  constructor
  · rintro ⟨hpending, hlists, hservice⟩
    refine ⟨fun h hc => ?_, fun d l => (hlists d l).1, fun d l h => ⟨fun hm => ?_, fun ⟨hc, ha⟩ => ?_⟩,
      fun d l e he => ?_⟩
    · obtain ⟨w, hw, l, hl, -⟩ := hpending h hc
      exact ⟨w.owner, l, (live h w.owner l).mp ⟨w, hw, rfl, hl⟩⟩
    · obtain ⟨hc, hw⟩ := (hlists d l).2 h hm
      exact ⟨hc, (live h d l).mp hw⟩
    · obtain ⟨w, hw, k, hk, hm⟩ := hpending h hc
      rw [(live h w.owner k).mp ⟨w, hw, rfl, hk⟩] at ha
      cases ha
      exact hm
    · obtain ⟨hc, hw⟩ := hservice d l e he
      exact ⟨hc, (live e.window d l).mp hw⟩
  · intro hs
    refine ⟨fun h hc => ?_, fun d l => ⟨hs.nodup d l, fun h hm => ?_⟩, fun d l e he => ?_⟩
    · obtain ⟨d, l, ha⟩ := hs.addressed h hc
      obtain ⟨w, hw, rfl, hl⟩ := addressee_eq_some.mp ha
      exact ⟨w, hw, l, hl, (hs.listed w.owner l h).mpr ⟨hc, ha⟩⟩
    · obtain ⟨hc, ha⟩ := (hs.listed d l h).mp hm
      exact ⟨hc, (live h d l).mpr ha⟩
    · obtain ⟨hc, ha⟩ := hs.served d l e he
      exact ⟨hc, (live e.window d l).mpr ha⟩

section
variable {s t : State} (hs : NoticesStand s)
include hs

/-- A handle without pending causes stands in no list. -/
theorem NoticesStand.not_mem {h : Handle} (hz : s.pendingCauses h = 0) (d : DomainId) (l : Level) :
    h ∉ (s.notice d).lists[l] := fun hm => ((hs.listed d l h).mp hm).1 hz

/-- A live window that is not in service is named by no entry of any domain. -/
theorem NoticesStand.unnamed {h : Handle} {w : Window} (hw : s.window h = some w) (hn : s.inService h = false)
    {d : DomainId} {l : Level} {e : NoticeEntry} (he : (s.notice d).service[l] = some e) : e.window ≠ h := by
  rintro rfl
  obtain ⟨-, ha⟩ := hs.served d l e he
  rw [addressee_of_window hw, Option.some.injEq, Prod.mk.injEq] at ha
  obtain ⟨rfl, -⟩ := ha
  exact entryOf_eq_none.mp (entryOf_of_not_inService hw hn) l e he rfl

/-- Changes that the agreement does not speak of, and a pending set that stays empty or stays not empty. -/
theorem NoticesStand.congr (ha : t.addressee = s.addressee)
    (hc : ∀ h, t.pendingCauses h = 0 ↔ s.pendingCauses h = 0) (hl : ∀ d, (t.notice d).lists = (s.notice d).lists)
    (hv : ∀ d, (t.notice d).service = (s.notice d).service) : NoticesStand t where
  addressed h hp := by
    rw [ha]
    exact hs.addressed h ((hc h).not.mp hp)
  nodup d l := by
    rw [hl]
    exact hs.nodup d l
  listed d l h := by
    rw [hl, ha, ne_eq, hc]
    exact hs.listed d l h
  served d l e he := by
    rw [hv] at he
    rw [ha]
    exact hs.served d l e he

theorem NoticesStand.of_blocks (ha : t.addressee = s.addressee) (hc : t.causes = s.causes) (hn : t.notices = s.notices) :
    NoticesStand t := by
  refine hs.congr ha (fun h => ?_) (fun d => ?_) fun d => ?_
  · simp only [State.pendingCauses, hc]
  · simp only [State.notice, hn]
  · simp only [State.notice, hn]

theorem NoticesStand.of_frame {l : List Block} (hf : Frame s t l) (hw : Block.windows ∉ l) (hc : Block.causes ∉ l)
    (hn : Block.notices ∉ l) : NoticesStand t :=
  hs.of_blocks (funext fun h => by rw [State.addressee, hf.same_window hw, State.addressee]) (hf .causes hc)
    (hf .notices hn)

/-- A handle loses its pending causes and its place in the lists; its own window may change, if no entry depends on it. -/
theorem NoticesStand.drop {h : Handle} (ha : ∀ x, x ≠ h → t.addressee x = s.addressee x)
    (hc : ∀ x, t.pendingCauses x = if x = h then 0 else s.pendingCauses x)
    (hl : ∀ (d : DomainId) (l : Level), (t.notice d).lists[l] = (s.notice d).lists[l].filter fun x => x != h)
    (hv : ∀ (d : DomainId) (l : Level) (e : NoticeEntry), (t.notice d).service[l] = some e →
      e.causes ≠ 0 ∧ t.addressee e.window = some (d, some l)) : NoticesStand t where
  addressed x hp := by
    rw [hc] at hp
    split at hp
    · exact absurd rfl hp
    · next hx =>
      rw [ha x hx]
      exact hs.addressed x hp
  nodup d l := by
    rw [hl]
    exact (hs.nodup d l).filter _
  listed d l x := by
    rw [hl, List.mem_filter, hs.listed, hc]
    by_cases hx : x = h
    · simp [hx]
    · simp [hx, ha x hx]
  served := hv

/-- A handle without pending causes gets some, and joins the list its notices go to at its tail. -/
theorem NoticesStand.join {h : Handle} {d : DomainId} {l : Level} (ha : t.addressee = s.addressee)
    (hat : s.addressee h = some (d, some l)) (hz : s.pendingCauses h = 0) (hp : t.pendingCauses h ≠ 0)
    (hc : OnlyCauses s t h)
    (hl : ∀ (e : DomainId) (k : Level), (t.notice e).lists[k] =
      if e = d ∧ k = l then (s.notice e).lists[k] ++ [h] else (s.notice e).lists[k])
    (hv : ∀ e, (t.notice e).service = (s.notice e).service) : NoticesStand t where
  addressed x hx := by
    rw [ha]
    by_cases hh : x = h
    · exact ⟨d, l, hh ▸ hat⟩
    · rw [hc x hh] at hx
      exact hs.addressed x hx
  nodup e k := by
    rw [hl]
    split
    · refine List.nodup_append.mpr ⟨hs.nodup e k, List.nodup_singleton h, fun x hx y hy hxy => ?_⟩
      rw [hxy, List.mem_singleton.mp hy] at hx
      exact hs.not_mem hz e k hx
    · exact hs.nodup e k
  listed e k x := by
    have hm : x ∈ (t.notice e).lists[k] ↔ x ∈ (s.notice e).lists[k] ∨ ((e = d ∧ k = l) ∧ x = h) := by
      rw [hl]
      split
      · next hek => simp [hek]
      · next hek => simp [hek]
    rw [hm, hs.listed, ha]
    by_cases hx : x = h
    · subst hx
      simp only [hz, hat, ne_eq, hp, not_true_eq_false, not_false_eq_true, false_and, false_or, true_and, and_true,
        Option.some.injEq, Prod.mk.injEq, eq_comm (a := d), eq_comm (a := l)]
    · simp [hx, hc x hx]
  served e k y hy := by
    rw [hv] at hy
    rw [ha]
    exact hs.served e k y hy

end

/-! ## Addressees that a change of a window keeps -/

theorem addressee_of_ite {s t : State} {p : Handle → Prop} [DecidablePred p] {f : Handle → Window → Window}
    (hf : ∀ h w, (f h w).owner = w.owner ∧ (f h w).level = w.level)
    (ht : ∀ h, t.window h = if p h then (s.window h).map (f h) else s.window h) : t.addressee = s.addressee := by
  funext h
  unfold State.addressee
  rw [ht]
  split
  · simp [Function.comp_def, hf]
  · rfl

theorem addressee_updWindow (s : State) (h : Handle) {f : Window → Window}
    (hf : ∀ w, (f w).owner = w.owner ∧ (f w).level = w.level) : (s.updWindow h f).addressee = s.addressee := by
  refine addressee_of_ite (p := (· = h)) (fun _ => hf) fun x => ?_
  rw [State.updWindow_window]
  split
  · next hx => rw [hx]
  · rfl

theorem addressee_setWindow {s : State} {h : Handle} {w v : Window} (hw : s.window h = some w)
    (hv : v.owner = w.owner ∧ v.level = w.level) : (s.setWindow h (some v)).addressee = s.addressee := by
  funext x
  unfold State.addressee
  rw [State.setWindow_window]
  split
  · next hx => simp [hx, hw, hv]
  · rfl

theorem asHead_addressee (w : Window) : (asHead w).owner = w.owner ∧ (asHead w).level = w.level := by
  unfold asHead
  split <;> exact ⟨rfl, rfl⟩

theorem cutWindow_addressee (s : State) (h : Handle) (w : Window) :
    (s.cutWindow h w).owner = w.owner ∧ (s.cutWindow h w).level = w.level := by
  unfold State.cutWindow
  split
  · exact ⟨rfl, rfl⟩
  · split <;> exact ⟨rfl, rfl⟩
  · exact ⟨rfl, rfl⟩

theorem failedWith_addressee (f : Failure) (w : Window) :
    (w.failedWith f).owner = w.owner ∧ (w.failedWith f).level = w.level := ⟨rfl, rfl⟩

theorem bound_addressee (w : Window) (c : ChannelId) (b : Bool) :
    (w.bound c b).owner = w.owner ∧ (w.bound c b).level = w.level := by
  cases b <;> exact ⟨rfl, rfl⟩

end Sys2Proof.Machine

namespace Sys2Proof.Machine

/-! ## The notice unit's own changes and the agreement (R117, R118, R119) -/

theorem joinList_lists (s : State) (d e : DomainId) (l k : Level) (h : Handle) :
    ((s.joinList d l h).notice e).lists[k] =
      if e = d ∧ k = l then (s.notice e).lists[k] ++ [h] else (s.notice e).lists[k] := by
  rw [joinList_notice]
  by_cases he : e = d
  · subst he
    rw [if_pos rfl, updList_lists]
    by_cases hk : k = l
    · subst hk
      simp
    · simp [hk]
  · simp [he]

theorem joinList_service (s : State) (d e : DomainId) (l : Level) (h : Handle) :
    ((s.joinList d l h).notice e).service = (s.notice e).service := by
  rw [joinList_notice]
  split
  · next he => rw [he, NoticeRecord.updList]
  · rfl

theorem leaveList_service (s : State) (d e : DomainId) (l : Level) (h : Handle) :
    ((s.leaveList d l h).notice e).service = (s.notice e).service := by
  rw [leaveList_notice]
  split
  · next he => rw [he, NoticeRecord.updList]
  · rfl

theorem filter_ne_of_not_mem {h : Handle} {q : List Handle} (hn : h ∉ q) : q.filter (fun x => x != h) = q :=
  List.filter_eq_self.mpr fun _ hx => by
    rw [bne_iff_ne]
    rintro rfl
    exact hn hx

/-- A set that holds a cause is not empty. -/
theorem or_flag_ne_zero (c : CauseSet) (x : Cause) : c ||| x.flag ≠ 0 := by
  intro h
  have hf : x.flag = 0 := (BitVec.or_eq_zero_iff.mp h).2
  cases x <;> exact absurd hf (by decide)

section
variable {s : State} (hs : NoticesStand s)
include hs

theorem NoticesStand.raise (h : Handle) (x : Cause) : NoticesStand (s.raise h x) := by
  cases hw : s.window h with
  | none =>
    rw [State.raise, hw]
    exact hs
  | some w =>
    cases hl : w.level with
    | none =>
      rw [raise_level_none x hw hl]
      exact hs
    | some l =>
      have hat : s.addressee h = some (w.owner, some l) := hl ▸ addressee_of_window hw
      rw [raise_level_some x hw hl]
      have hset : ∀ t : State, (t.setCauses h (s.pendingCauses h ||| x.flag)).pendingCauses h ≠ 0 := fun t => by
        rw [State.setCauses_pendingCauses, if_pos rfl]
        exact or_flag_ne_zero _ x
      split
      · next hz =>
        exact hs.join rfl hat hz (hset _) (fun y hy => by simp [hy]) (fun e k => joinList_lists s _ e l k h)
          fun e => joinList_service s _ e l h
      · next hp =>
        refine hs.congr rfl (fun y => ?_) (fun _ => rfl) fun _ => rfl
        by_cases hy : y = h
        · rw [hy]
          exact iff_of_false (hset s) hp
        · rw [State.setCauses_pendingCauses, if_neg hy]

theorem NoticesStand.raise? (h : Handle) (x : Option Cause) : NoticesStand (s.raise? h x) := by
  cases x with
  | none => exact hs
  | some x => exact hs.raise h x

theorem NoticesStand.raiseOverride (d : DomainId) (h : Handle) (w : Window) : NoticesStand (s.raiseOverride d h w) := by
  unfold State.raiseOverride
  split
  · exact hs.raise h _
  · exact hs

omit hs in
theorem NoticesStand.foldl_raise (l : List Handle) (x : Cause) {s : State} (hs : NoticesStand s) :
    NoticesStand (l.foldl (fun t h => t.raise h x) s) := by
  induction l generalizing s with
  | nil => exact hs
  | cons h l ih => exact ih (hs.raise h x)

/-- A window without pending causes that no entry names may become any window, or FREE. -/
theorem NoticesStand.setWindow_unnamed {h : Handle} (hz : s.pendingCauses h = 0)
    (hn : ∀ (d : DomainId) (l : Level) (e : NoticeEntry), (s.notice d).service[l] = some e → e.window ≠ h)
    (o : Option Window) : NoticesStand (s.setWindow h o) := by
  have ha : ∀ x, x ≠ h → (s.setWindow h o).addressee x = s.addressee x := fun x hx => by
    rw [State.addressee, State.setWindow_window, if_neg hx, State.addressee]
  refine hs.drop ha (fun x => ?_) (fun d l => ?_) fun d l e he => ?_
  · rw [State.setWindow_pendingCauses]
    split
    · next hx => rw [hx, hz]
    · rfl
  · exact (filter_ne_of_not_mem (hs.not_mem hz d l)).symm
  · rw [ha _ (hn d l e he)]
    exact hs.served d l e he

theorem NoticesStand.setWindow_alike {h : Handle} {w v : Window} (hw : s.window h = some w)
    (hv : v.owner = w.owner ∧ v.level = w.level) : NoticesStand (s.setWindow h (some v)) :=
  hs.of_blocks (addressee_setWindow hw hv) rfl rfl

/-- A handle leaves the list its notices go to, which is the only list it can stand in. -/
theorem NoticesStand.leaveList_lists {h : Handle} {d : DomainId} {l : Level} (hat : s.addressee h = some (d, some l))
    (e : DomainId) (k : Level) :
    ((s.leaveList d l h).notice e).lists[k] = (s.notice e).lists[k].filter fun x => x != h := by
  by_cases hek : e = d ∧ k = l
  · obtain ⟨rfl, rfl⟩ := hek
    rw [leaveList_notice, if_pos rfl, updList_lists, if_pos rfl]
  · have hm : h ∉ (s.notice e).lists[k] := fun hm => by
      obtain ⟨-, ha⟩ := (hs.listed e k h).mp hm
      rw [hat, Option.some.injEq, Prod.mk.injEq, Option.some.injEq] at ha
      exact hek ⟨ha.1.symm, ha.2.symm⟩
    rw [filter_ne_of_not_mem hm, leaveList_notice]
    split
    · next he => rw [updList_lists, if_neg fun hk => hek ⟨he, hk⟩, he]
    · rfl

/-- A notice is withdrawn: the window leaves its list with its pending set emptied (R22, R124). -/
theorem NoticesStand.withdraw {h : Handle} {d : DomainId} {l : Level} (hat : s.addressee h = some (d, some l)) :
    NoticesStand ((s.leaveList d l h).setCauses h 0) :=
  hs.drop (fun _ _ => rfl) (fun x => by simp) (fun e k => hs.leaveList_lists hat e k) fun e k y hy => by
    rw [State.setCauses_notice, leaveList_service] at hy
    exact hs.served e k y hy

theorem NoticesStand.setEntry {d : DomainId} {l : Level} {o : Option NoticeEntry}
    (ho : ∀ e ∈ o, e.causes ≠ 0 ∧ s.addressee e.window = some (d, some l)) :
    NoticesStand (s.updNotice d fun n => n.setEntry l o) where
  addressed := hs.addressed
  nodup e k := by
    rw [State.updNotice_notice]
    split
    · exact hs.nodup d k
    · exact hs.nodup e k
  listed e k h := by
    rw [State.updNotice_notice]
    split
    · next he => exact he ▸ hs.listed d k h
    · exact hs.listed e k h
  served e k y hy := by
    rw [State.updNotice_notice] at hy
    split at hy
    · next he =>
      subst he
      rw [NoticeRecord.setEntry, getElem_set_fin] at hy
      split at hy
      · next hk => exact hk ▸ ho y hy
      · exact hs.served e k y hy
    · exact hs.served e k y hy

/-- A change of a notice record that leaves its lists and its in-service table alone. -/
theorem NoticesStand.updNotice {d : DomainId} {f : NoticeRecord → NoticeRecord}
    (hl : (f (s.notice d)).lists = (s.notice d).lists) (hv : (f (s.notice d)).service = (s.notice d).service) :
    NoticesStand (s.updNotice d f) := by
  refine hs.congr rfl (fun _ => Iff.rfl) (fun e => ?_) fun e => ?_
  · rw [State.updNotice_notice]
    split
    · next he => rw [hl, he]
    · rfl
  · rw [State.updNotice_notice]
    split
    · next he => rw [hv, he]
    · rfl

theorem NoticesStand.freeWindow {h : Handle} {w : Window} (hw : s.window h = some w) :
    NoticesStand (s.freeWindow h w) := by
  have ha : ∀ x, x ≠ h → (s.freeWindow h w).addressee x = s.addressee x := fun x hx => by
    rw [State.addressee, freeWindow_window, if_neg hx, State.addressee]
  have elsewhere : ∀ {e : DomainId} {o : Option Level}, s.addressee h = some (e, o) → e = w.owner := fun hat => by
    rw [addressee_of_window hw, Option.some.injEq, Prod.mk.injEq] at hat
    exact hat.1.symm
  refine hs.drop ha (fun x => freeWindow_pendingCauses s h w x) (fun e k => ?_) fun e k y hy => ?_
  · rw [freeWindow_notice]
    split
    · next he => rw [without_lists, he]
    · next he => exact (filter_ne_of_not_mem fun hm => he (elsewhere ((hs.listed e k h).mp hm).2)).symm
  · have hold : (s.notice e).service[k] = some y ∧ y.window ≠ h := by
      rw [freeWindow_notice] at hy
      split at hy
      · next he =>
        have hget : ((s.notice w.owner).without h).service[k] =
            ((s.notice w.owner).service[k]).bind fun y => y.unless h :=
          getElem_ofFn_fin (fun k : Level => ((s.notice w.owner).service[k]).bind fun y => y.unless h) k
        rw [hget, Option.bind_eq_some_iff] at hy
        obtain ⟨z, hz, hy⟩ := hy
        rw [NoticeEntry.unless] at hy
        split at hy
        · cases hy
        · next hne =>
          cases hy
          exact ⟨he ▸ hz, hne⟩
      · next he => exact ⟨hy, fun hyh => he (elsewhere (hyh ▸ (hs.served e k y hy).2))⟩
    rw [ha _ hold.2]
    exact hs.served e k y hold.1

end

end Sys2Proof.Machine

namespace Sys2Proof.Machine

/-! ## The agreement and the end of a unit -/

section
variable {s : State} (hs : NoticesStand s)
include hs

theorem NoticesStand.grantDecision : NoticesStand s.grantDecision :=
  hs.of_frame (Frame.grantDecision s) (by decide) (by decide) (by decide)

theorem NoticesStand.updChannel_grantDecision (c : ChannelId) (f : Channel → Channel) :
    NoticesStand (s.updChannel c f).grantDecision :=
  hs.of_frame (Frame.updChannel_grantDecision s c f) (by decide) (by decide) (by decide)

theorem NoticesStand.activateHead (c : ChannelId) : NoticesStand (s.activateHead c) :=
  hs.of_blocks (addressee_of_ite (fun _ => asHead_addressee) (window_activateHead s c))
    (Frame.activateHead s c .causes (by decide)) (Frame.activateHead s c .notices (by decide))

theorem NoticesStand.updChannel_activateHead (c : ChannelId) (f : Channel → Channel) :
    NoticesStand ((s.updChannel c f).activateHead c) :=
  (hs.of_frame (Frame.updChannel s c f) (by decide) (by decide) (by decide)).activateHead c

theorem NoticesStand.yield (u : UnitRecord) : NoticesStand (s.yield u) := by
  obtain ⟨hc, hn⟩ := yielded_causes_notices s u
  have hy : NoticesStand (s.yielded u) :=
    hs.of_blocks (addressee_of_ite (fun _ => asHead_addressee) (yielded_window s u)) hc hn
  exact hy.grantDecision

/-- The counted or failed window of a unit keeps its owner and its level, and the cause is raised for it. -/
theorem NoticesStand.unitEnded (u : UnitRecord) {g : Window → Window}
    (hg : ∀ w, (g w).owner = w.owner ∧ (g w).level = w.level) (off : Bool) (x : Option Cause) (k : Channel → Channel) :
    NoticesStand (s.unitEnded u g off x k) := by
  obtain ⟨hc, hn⟩ := unitEnded_notices s u g off x k hg
  refine (hs.raise? u.window x).of_blocks (addressee_of_ite (p := (· = u.window)) (fun _ => hg) fun h => ?_) hc hn
  rw [unitEnded_window, (Frame.raise? s u.window x).same_window (by decide)]
  split
  · next hh => rw [hh]
  · rfl

theorem NoticesStand.tornDownEnd {u : UnitRecord} {w : Window} (hw : s.window u.window = some w) :
    NoticesStand (s.tornDownEnd u w) := by
  have hfreed : NoticesStand (s.drainFreed u w) := (hs.freeWindow hw).of_blocks rfl rfl rfl
  rw [tornDownEnd_eq]
  exact (hfreed.of_frame (frame_finishTeardown _) (by decide) (by decide) (by decide)).grantDecision

theorem NoticesStand.headOk (u : UnitRecord) (w : Window) : NoticesStand (s.headOk u w) := by
  have hcounted : NoticesStand (s.headCounted u w) := hs.unitEnded u afterHeadOk_notice _ _ _
  rw [headOk_eq]
  split
  · exact hcounted.of_frame (frame_issue _ _) (by decide) (by decide) (by decide)
  · exact hcounted.yield u

theorem NoticesStand.headFailed (u : UnitRecord) (f : Failure) : NoticesStand (s.headFailed u f) := by
  have hlost : NoticesStand (s.headLost u f) := hs.unitEnded u (failedWith_addressee f) _ _ _
  have hstalled : NoticesStand
      (((s.headLost u f).updChannel u.channel fun ch => ch.stalledBy u.window f).setHolder none) :=
    hlost.of_blocks rfl rfl rfl
  rw [headFailed_eq]
  split
  · exact hlost.yield u
  · exact hstalled.grantDecision

theorem NoticesStand.unitOk (u : UnitRecord) : NoticesStand (s.unitOk u) := by
  have hgone : NoticesStand (s.setRecord none) := hs.of_blocks rfl rfl rfl
  obtain ⟨-, h⟩ | ⟨w, hw, ⟨-, h⟩ | ⟨-, -, h⟩ | ⟨-, -, h⟩ | ⟨-, -, -, h⟩⟩ := unitOk_cases s u <;> rw [h]
  · exact hgone.yield u
  · exact hgone.tornDownEnd hw
  · rw [drainOk_eq]
    exact (hgone.unitEnded u afterDrainOk_notice _ _ _).yield u
  · exact hgone.headOk u w
  · exact hgone.yield u

theorem NoticesStand.unitFailed (u : UnitRecord) (f : Failure) : NoticesStand (s.unitFailed u f) := by
  have hgone : NoticesStand (s.setRecord none) := hs.of_blocks rfl rfl rfl
  obtain ⟨-, h⟩ | ⟨w, hw, ⟨-, h⟩ | ⟨-, -, h⟩ | ⟨-, -, h⟩ | ⟨-, -, -, h⟩⟩ := unitFailed_cases s u f <;> rw [h]
  · exact hgone.yield u
  · exact hgone.tornDownEnd hw
  · rw [drainFailed_eq]
    exact (hgone.unitEnded u (failedWith_addressee f) _ _ _).yield u
  · exact hgone.headFailed u f
  · exact hgone.yield u

theorem NoticesStand.timeout (u : UnitRecord) : NoticesStand (s.timeout u) := by
  have hstale : NoticesStand (s.setStale true) := hs.of_blocks rfl rfl rfl
  unfold State.timeout
  split
  · exact hstale.unitFailed u _
  · exact hs.unitFailed u _

theorem NoticesStand.ageUnit : NoticesStand s.ageUnit := by
  obtain h | ⟨u, -, -, ⟨-, h⟩ | ⟨-, h⟩⟩ := ageUnit_cases s <;> rw [h]
  · exact hs
  · exact hs.timeout u
  · exact hs.of_blocks rfl rfl rfl

/-! ## The agreement and the leases -/

/-- An expired window keeps its owner and its level, and EXPIRED is raised for it (R109). -/
theorem NoticesStand.expire (l : List Handle) : NoticesStand (s.expire l) := by
  have hlost : NoticesStand (s.leasesLost l) :=
    hs.of_blocks (addressee_of_ite (f := fun _ => expiredWindow) (fun _ _ => ⟨rfl, rfl⟩) (leasesLost_window s l))
      (frame_leasesLost s l .causes (by decide)) (frame_leasesLost s l .notices (by decide))
  exact .foldl_raise l .expired hlost

theorem NoticesStand.countdown : NoticesStand s.countdown := by
  have hlow : NoticesStand (s.mapWindows (lowered s)) := by
    refine hs.of_blocks (addressee_of_ite (p := fun h => (s.leaseCounts h && !s.expires h) = true)
      (f := fun _ w => { w with lease := w.lease - 1 }) (fun _ _ => ⟨rfl, rfl⟩) fun h => ?_) (Frame.mapWindows s _ .causes (by decide)) (Frame.mapWindows s _ .notices (by decide))
    exact State.mapWindows_window s (lowered s) h
  rw [countdown_eq]
  exact hlow.expire _

theorem NoticesStand.tick : NoticesStand s.tick := by
  have hrestarted : NoticesStand s.restarted := hs.of_blocks rfl rfl rfl
  exact hrestarted.countdown.ageUnit

end

/-! ## The agreement and the start of a teardown -/

section
variable {s : State} {ds : DomainId → Bool} {h : Handle} {d : DomainId} {o : Option Level}

/-- A window that is live at the start of a teardown keeps its owner and its level. -/
theorem addressee_of_beginTeardown (ha : (s.beginTeardown ds).addressee h = some (d, o)) :
    s.addressee h = some (d, o) := by
  obtain ⟨v, hv, hd, ho⟩ := addressee_eq_some.mp ha
  obtain ⟨w, hw, ⟨-, rfl⟩ | ⟨-, -, rfl⟩⟩ := beginTeardown_live.mp hv
  · exact addressee_eq_some.mpr ⟨_, hw, hd, ho⟩
  · exact addressee_eq_some.mpr ⟨w, hw, hd, ho⟩

theorem beginTeardown_addressee_other (hd : ds d = false) :
    (s.beginTeardown ds).addressee h = some (d, o) ↔ s.addressee h = some (d, o) := by
  refine ⟨addressee_of_beginTeardown, fun ha => ?_⟩
  obtain ⟨w, hw, rfl, ho⟩ := addressee_eq_some.mp ha
  exact addressee_eq_some.mpr ⟨w, beginTeardown_live.mpr ⟨w, hw, .inl ⟨hd, rfl⟩⟩, rfl, ho⟩

theorem beginTeardown_causes_of_addressee (ha : s.addressee h = some (d, o)) :
    (s.beginTeardown ds).pendingCauses h = if ds d then 0 else s.pendingCauses h := by
  obtain ⟨w, hw, rfl, -⟩ := addressee_eq_some.mp ha
  rw [beginTeardown_pendingCauses, hw, Option.any_some]

end

/-- The teardown of a domain empties the pending sets of its windows and its notice record together (R134 to R136). -/
theorem NoticesStand.beginTeardown {s : State} (hs : NoticesStand s) (ds : DomainId → Bool) :
    NoticesStand (s.beginTeardown ds) where
  addressed h hp := by
    have hz : s.pendingCauses h ≠ 0 := fun hz => by simp [beginTeardown_pendingCauses, hz] at hp
    obtain ⟨d, l, ha⟩ := hs.addressed h hz
    rw [beginTeardown_causes_of_addressee ha] at hp
    cases hd : ds d with
    | false => exact ⟨d, l, (beginTeardown_addressee_other hd).mpr ha⟩
    | true => exact absurd (if_pos hd) hp
  nodup d l := by
    rw [beginTeardown_notice]
    split
    · rw [(tornNotice_empty d _ l).1]
      exact List.nodup_nil
    · exact hs.nodup d l
  listed d l h := by
    rw [beginTeardown_notice]
    cases hd : ds d with
    | false =>
      rw [if_neg Bool.false_ne_true, beginTeardown_addressee_other hd, hs.listed]
      refine and_congr_left fun ha => ?_
      rw [beginTeardown_causes_of_addressee ha, hd, if_neg Bool.false_ne_true]
    | true =>
      rw [if_pos rfl, (tornNotice_empty d _ l).1]
      refine iff_of_false List.not_mem_nil fun ⟨hp, ha⟩ => hp ?_
      rw [beginTeardown_causes_of_addressee (addressee_of_beginTeardown ha), if_pos hd]
  served d l e he := by
    rw [beginTeardown_notice] at he
    cases hd : ds d with
    | false =>
      rw [hd, if_neg Bool.false_ne_true] at he
      rw [beginTeardown_addressee_other hd]
      exact hs.served d l e he
    | true =>
      rw [hd, if_pos rfl, (tornNotice_empty d _ l).2] at he
      cases he

end Sys2Proof.Machine

namespace Sys2Proof.Machine

/-! ## The commands and the agreement -/

section
variable {s : State} (hs : NoticesStand s)
include hs

theorem NoticesStand.deliver (d : DomainId) : NoticesStand (s.deliver d) := by
  cases hn : (s.notice d).next with
  | none =>
    rw [deliver_of_none hn]
    exact hs
  | some p =>
    obtain ⟨l, h⟩ := p
    obtain ⟨-, hhead, -⟩ := next_eq_some.mp hn
    obtain ⟨hc, hat⟩ := (hs.listed d l h).mp (List.mem_of_mem_head? hhead)
    rw [deliver_of_next hn]
    split
    · exact hs.withdraw hat
    · refine (hs.withdraw hat).setEntry ?_
      rintro e ⟨⟩
      exact ⟨hc, hat⟩

/-- The notice state of a window at an amend: with its level changed, a window with a pending set goes from the list of its
level to the list of the new one, or with NONE loses the set (R22). -/
theorem NoticesStand.amend {h : Handle} {w : Window} (hw : s.window h = some w) (x : Notify)
    (hn : ¬ (x.level ≠ w.level ∧ s.inService h = true)) :
    NoticesStand ((s.moveNotice h w x.level).setWindow h (some (w.amended x))) := by
  by_cases hlevel : x.level = w.level
  · rw [moveNotice_unmoved (.inl hlevel)]
    exact hs.setWindow_alike hw ⟨rfl, hlevel⟩
  have unnamed : ∀ (d : DomainId) (l : Level) (e : NoticeEntry), (s.notice d).service[l] = some e → e.window ≠ h :=
    fun d l e he => hs.unnamed hw (by simpa [hlevel] using hn) he
  by_cases hz : s.pendingCauses h = 0
  · rw [moveNotice_unmoved (.inr (.inr hz))]
    exact hs.setWindow_unnamed hz unnamed _
  obtain ⟨d, l, hat⟩ := hs.addressed h hz
  obtain ⟨v, hv, rfl, hl⟩ := addressee_eq_some.mp hat
  rw [hw] at hv
  cases hv
  have hdropped : NoticesStand (((s.leaveList w.owner l h).setCauses h 0).setWindow h (some (w.amended x))) := by
    refine (hs.withdraw hat).setWindow_unnamed (by simp) (fun d k e he => ?_) _
    rw [State.setCauses_notice, leaveList_service] at he
    exact unnamed d k e he
  cases hx : x.level with
  | none =>
    rw [moveNotice_to_none hl hz]
    exact hdropped
  | some k =>
    rw [moveNotice_to_level hl (by simpa [hx, hl] using hlevel) hz]
    refine hdropped.join (h := h) (d := w.owner) (l := k) rfl ?_ (by simp) (by simpa using hz)
      (fun y hy => by simp [hy]) (fun e i => ?_) fun e => ?_
    · exact addressee_eq_some.mpr ⟨w.amended x, by simp, rfl, hx⟩
    · simpa using joinList_lists (s.leaveList w.owner l h) w.owner e k i h
    · simpa using joinList_service (s.leaveList w.owner l h) w.owner e k h

variable (d : DomainId) (t : BitVec 8)

theorem openWindow_keeps_notices : Keeps NoticesStand (openWindow d t s) := by
  unfold openWindow
  split
  · trivial
  · split
    · trivial
    · split
      · trivial
      · split
        · trivial
        · split
          · trivial
          · split
            · trivial
            · next h hh =>
              obtain ⟨hz, hentry⟩ := (noticesAgree_iff.mpr hs).of_free (freeHandle_eq_some.mp hh).1
              exact (hs.setWindow_unnamed hz (fun d l e he => entryOf_eq_none.mp (hentry d) l e he) _).of_frame
                (Frame.updDomain _ d _) (by decide) (by decide) (by decide)

theorem releaseWindow_keeps_notices : Keeps NoticesStand (releaseWindow d t s) := by
  unfold releaseWindow
  split
  · trivial
  · next h w hl =>
    split
    · trivial
    · split
      · trivial
      · split
        · trivial
        · exact (hs.freeWindow (liveWindow_mem hl)).of_frame (Frame.updDomain _ d _) (by decide) (by decide) (by decide)

theorem bindWindow_keeps_notices : Keeps NoticesStand (bindWindow d t s) := by
  unfold bindWindow
  split
  · next h w c hl _ =>
    split
    · trivial
    · split
      · trivial
      · exact (hs.setWindow_alike (liveWindow_mem hl) (bound_addressee w c _)).updChannel_grantDecision c _
  · trivial

theorem NoticesStand.revokeLinked (h : Handle) (c : ChannelId) : NoticesStand (s.revokeLinked h c) :=
  hs.of_blocks (addressee_updWindow s h (f := Window.parkedOff) fun _ => ⟨rfl, rfl⟩) rfl rfl

theorem NoticesStand.startDrain (h : Handle) (c : ChannelId) : NoticesStand (s.startDrain h c) :=
  hs.of_blocks (addressee_updWindow s h (f := fun w => { w with state := .draining }) fun _ => ⟨rfl, rfl⟩) rfl rfl

theorem NoticesStand.revokeActive (h : Handle) (c : ChannelId) : NoticesStand (s.revokeActive h c) :=
  ((hs.revokeLinked h c).activateHead c).of_frame (Frame.updChannel _ c _) (by decide) (by decide) (by decide)

theorem revokeWindow_keeps_notices : Keeps NoticesStand (revokeWindow d t s) := by
  unfold revokeWindow
  split
  · trivial
  · next h w _ =>
    split
    · trivial
    · split
      · next c _ _ => exact (hs.revokeLinked h c).raiseOverride d h w
      · next c _ _ =>
        split
        · exact (hs.startDrain h c).raiseOverride d h w
        · exact (hs.revokeActive h c).raiseOverride d h w
      · trivial

theorem rewindWindow_keeps_notices : Keeps NoticesStand (rewindWindow d t s) := by
  unfold rewindWindow
  split
  · trivial
  · next h w hl =>
    split
    · trivial
    · split
      · trivial
      · exact hs.setWindow_alike (v := w.rewound) (liveWindow_mem hl) ⟨rfl, rfl⟩

theorem amendWindow_keeps_notices : Keeps NoticesStand (amendWindow d t s) := by
  unfold amendWindow
  split
  · trivial
  · next h w hl =>
    split
    · trivial
    · split
      · trivial
      · next x _ =>
        split
        · trivial
        · next hn => exact hs.amend (liveWindow_mem hl) x hn

theorem touchWindow_keeps_notices : Keeps NoticesStand (touchWindow d t s) := by
  unfold touchWindow
  split
  · trivial
  · next h w hl =>
    split
    · trivial
    · exact hs.setWindow_alike (v := w.renewed) (liveWindow_mem hl) ⟨rfl, rfl⟩

theorem disableChannel_keeps_notices : Keeps NoticesStand (disableChannel d t s) := by
  refine keeps_onChannel fun c => ?_
  split
  · trivial
  · exact hs.of_blocks rfl rfl rfl
  · exact hs.updChannel_activateHead c _
  all_goals exact hs.of_blocks rfl rfl rfl

theorem NoticesStand.cutChainOf (c : ChannelId) : NoticesStand (s.cutChainOf c) :=
  hs.of_blocks (addressee_of_ite (cutWindow_addressee s) (cutChainOf_window s c))
    (frame_cutChainOf s c .causes (by decide)) (frame_cutChainOf s c .notices (by decide))

theorem cutChain_keeps_notices : Keeps NoticesStand (cutChain d t s) := by
  refine keeps_onChannel fun c => ?_
  dsimp only
  split <;> exact hs.cutChainOf c

theorem resumeChannel_keeps_notices : Keeps NoticesStand (resumeChannel d t s) := by
  refine keeps_onChannel fun c => ?_
  split
  · trivial
  · exact (hs.updChannel_activateHead c _).updChannel_grantDecision c _

theorem NoticesStand.retire (l : Level) : NoticesStand (s.retire d l) :=
  hs.setEntry fun _ he => nomatch he

theorem retireNotice_keeps_notices : Keeps NoticesStand (retireNotice d t s) := by
  unfold retireNotice
  split
  · trivial
  · split
    · trivial
    · split
      · trivial
      · exact hs.retire d _

theorem retireTop_keeps_notices : Keeps NoticesStand (retireTop d t s) := by
  unfold retireTop
  split
  · trivial
  · exact hs.retire d _

/-- SET NOTICES changes which notices may be delivered, and none of them (R130). -/
theorem setNotices_keeps_notices : Keeps NoticesStand (setNotices d t s) := by
  unfold setNotices
  split
  · trivial
  · exact hs.updNotice rfl rfl

theorem tearDown_keeps_notices (ds : DomainId → Bool) (k : Nat → ChannelSet → Waiting) :
    Keeps NoticesStand (s.tearDown ds k) := by
  unfold State.tearDown
  dsimp only
  split
  · exact (hs.beginTeardown ds).of_frame (frame_finishDomains _) (by decide) (by decide) (by decide)
  · exact hs.beginTeardown ds

theorem closeDomain_keeps_notices : Keeps NoticesStand (closeDomain d t s) := by
  refine keeps_supervisor (keeps_onDomain fun x => ?_)
  split
  · trivial
  · exact tearDown_keeps_notices hs _ _

theorem masterClear_keeps_notices : Keeps NoticesStand (masterClear d t s) := by
  have hr : NoticesStand s.running := hs.of_blocks rfl rfl rfl
  exact keeps_supervisor (tearDown_keeps_notices hr _ _)

/-- A command that changes no window, no pending set and no notice record. -/
theorem NoticesStand.within {x : Completion} {l : List Block} (hx : Within x s l)
    (hl : Block.windows ∉ l ∧ Block.causes ∉ l ∧ Block.notices ∉ l) : Keeps NoticesStand x := by
  obtain ⟨hwindows, hcauses, hnotices⟩ := hl
  exact Keeps.of_within hx fun _ hf => hs.of_frame hf hwindows hcauses hnotices

/-- The block that any code names keeps the agreement. -/
theorem bodyOf_keeps_notices (k : BitVec 8) : Keeps NoticesStand (bodyOf k d t s) := by
  generalize hf : bodyOf k = f
  unfold bodyOf at hf
  split at hf <;> subst hf
  case h_1 => exact openWindow_keeps_notices hs d t
  case h_2 => exact releaseWindow_keeps_notices hs d t
  case h_3 => exact bindWindow_keeps_notices hs d t
  case h_4 => exact revokeWindow_keeps_notices hs d t
  case h_5 => exact rewindWindow_keeps_notices hs d t
  case h_6 => exact amendWindow_keeps_notices hs d t
  case h_7 => exact touchWindow_keeps_notices hs d t
  case h_8 => exact hs.within (readWindow_within d t s) (by decide)
  case h_9 => exact hs.within (enableChannel_within d t s) (by decide)
  case h_10 => exact disableChannel_keeps_notices hs d t
  case h_11 => exact hs.within (maskChannel_within d t s) (by decide)
  case h_12 => exact hs.within (unmaskChannel_within d t s) (by decide)
  case h_13 => exact hs.within (setChannel_within d t s) (by decide)
  case h_14 => exact cutChain_keeps_notices hs d t
  case h_15 => exact resumeChannel_keeps_notices hs d t
  case h_16 => exact hs.within (pulseChannel_within d t s) (by decide)
  case h_17 => exact hs.within (readChannel_within d t s) (by decide)
  case h_18 => exact retireNotice_keeps_notices hs d t
  case h_19 => exact retireTop_keeps_notices hs d t
  case h_20 => exact setNotices_keeps_notices hs d t
  case h_21 => exact hs.within (openDomain_within d t s) (by decide)
  case h_22 => exact closeDomain_keeps_notices hs d t
  case h_23 => exact hs.within (setQuota_within d t s) (by decide)
  case h_24 => exact hs.within (setRange_within d t s) (by decide)
  case h_25 => exact hs.within (clearRange_within d t s) (by decide)
  case h_26 => exact hs.within (assignChannel_within d t s) (by decide)
  case h_27 => exact hs.within (unassignChannel_within d t s) (by decide)
  case h_28 => exact hs.within (setArbiter_within d t s) (by decide)
  case h_29 => exact hs.within (pauseArbiter_within d t s) (by decide)
  case h_30 => exact hs.within (runArbiter_within d t s) (by decide)
  case h_31 => exact hs.within (setClock_within d t s) (by decide)
  case h_32 => exact hs.within (readDomain_within d t s) (by decide)
  case h_33 => exact masterClear_keeps_notices hs d t
  case h_34 => trivial

end

/-- A command's completion writes its port alone. -/
theorem NoticesStand.apply {s : State} {x : Completion} (hx : Keeps NoticesStand x) (hs : NoticesStand s) (d : DomainId) :
    NoticesStand (x.apply s d) := by
  cases x with
  | done t r => exact NoticesStand.of_blocks hx rfl rfl rfl
  | refused o => exact hs.of_blocks rfl rfl rfl
  | waits t y => exact NoticesStand.of_blocks hx rfl rfl rfl

theorem noticesStand_reset : NoticesStand State.reset := by
  obtain ⟨hfree, -, -, -, -, hdomain, -⟩ := reset_atResetValues
  have hlists : ∀ (d : DomainId) (l : Level), (State.reset.notice d).lists[l] = [] := fun d l => by
    obtain ⟨⟨-, -, -, hl, -⟩, -⟩ := hdomain d
    exact hl l
  refine ⟨fun h hp => absurd (hfree h).2 hp, fun d l => ?_, fun d l h => ?_, fun d l e he => ?_⟩
  · rw [hlists]
    exact List.nodup_nil
  · rw [hlists]
    exact iff_of_false List.not_mem_nil fun hp => hp.1 (hfree h).2
  · obtain ⟨⟨-, -, -, -, hservice⟩, -⟩ := hdomain d
    rw [hservice] at he
    cases he

/-! ## Every change keeps the agreement -/

theorem Change.keeps_notices {s t : State} (hx : Change s t) (hs : NoticesStand s) : NoticesStand t := by
  cases hx with
  | unchanged => exact hs
  | command d w =>
    have haccept : NoticesStand (s.accept d w) := hs.of_blocks rfl rfl rfl
    exact .apply (bodyOf_keeps_notices haccept d _ _) haccept d
  | port d f r => exact hs.of_blocks rfl rfl rfl
  | readZero => exact hs.of_blocks rfl rfl rfl
  | deliver d r => exact (hs.deliver d).of_blocks rfl rfl rfl
  | pin c b => exact hs.of_blocks rfl rfl rfl
  | request c b =>
    have hpin : NoticesStand (s.setPin c b) := hs.of_blocks rfl rfl rfl
    exact hpin.updChannel_grantDecision c _
  | busGrant u => exact hs.of_blocks rfl rfl rfl
  | discard => exact hs.of_blocks rfl rfl rfl
  | unitOk u => exact hs.unitOk u
  | busError u => exact hs.unitFailed u _
  | tick => exact hs.tick
  | expiry h => exact hs.expire [h]
  | timeout u => exact hs.timeout u
  | reset => exact noticesStand_reset.of_blocks rfl rfl rfl
  | release => exact hs.of_frame (frame_resetRelease s) (by decide) (by decide) (by decide)

theorem noticesStandKept : KeptByStep NoticesStand :=
  keptByStep_of_change (fun _ _ hs => hs.of_blocks rfl rfl rfl) (fun _ _ _ hs => hs.of_blocks rfl rfl rfl)
    fun _ _ hx hs => hx.keeps_notices hs

end Sys2Proof.Machine

namespace Sys2Proof.Proofs

open Sys2Proof.Machine

/-- Settles O55: every kind of change keeps the agreement with each list said by its members, which is R119's. -/
theorem noticesKept : Obligations.NoticesKept := fun s t hs hstep =>
  noticesAgree_iff.mpr (noticesStandKept s t (noticesAgree_iff.mp hs) hstep)

end Sys2Proof.Proofs

namespace Sys2Proof.Machine

/-! ## RETIRE NOTICE and RETIRE TOP, by their checks in their order (R127, R128, R163) -/

section
variable {s : State} {d : DomainId} {t : BitVec 8}

theorem retireNotice_none (hl : s.liveWindow t = none) : retireNotice d t s = .refused .badHandle := by
  rw [retireNotice, hl]

section
variable {h : Handle} {w : Window} (hl : s.liveWindow t = some (h, w))
include hl

theorem retireNotice_notOwner (ho : w.owner ≠ d) : retireNotice d t s = .refused .notOwner := by
  rw [retireNotice, hl]
  exact if_pos ho

theorem retireNotice_unserved (ho : w.owner = d) (hn : (s.notice d).entryOf h = none) :
    retireNotice d t s = .refused .state := by
  rw [retireNotice, hl]
  dsimp only
  rw [hn]
  exact if_neg (not_not_intro ho)

theorem retireNotice_served {l : Level} {e : NoticeEntry} (ho : w.owner = d) (hn : (s.notice d).entryOf h = some (l, e)) :
    retireNotice d t s = .done (s.retire d l) (words (retireWord l e) 0 0 0) := by
  rw [retireNotice, hl]
  dsimp only
  rw [hn]
  exact if_neg (not_not_intro ho)

end

theorem top_eq_none {n : NoticeRecord} (h : ∀ l : Level, n.service[l] = none) : n.top = none := by
  rw [NoticeRecord.top, List.findSome?_eq_none_iff]
  exact fun l _ => by rw [h, Option.map_none]

theorem top_eq_some {n : NoticeRecord} {l : Level} {e : NoticeEntry} (he : n.service[l] = some e)
    (hbefore : ∀ k : Level, k < l → n.service[k] = none) : n.top = some (l, e) :=
  findSome_finRange (f := fun l => (n.service[l]).map fun e => (l, e)) (by rw [he, Option.map_some])
    fun k hk => by rw [hbefore k hk, Option.map_none]

theorem retireTop_none (h : ∀ l : Level, (s.notice d).service[l] = none) : retireTop d t s = .refused .state := by
  rw [retireTop, top_eq_none h]

theorem retireTop_first {l : Level} {e : NoticeEntry} (he : (s.notice d).service[l] = some e)
    (hbefore : ∀ k : Level, k < l → (s.notice d).service[k] = none) :
    retireTop d t s = .done (s.retire d l) (words (retireWord l e) 0 0 0) := by
  rw [retireTop, top_eq_some he hbefore]

theorem retire_notice (e : DomainId) (l : Level) :
    (s.retire d l).notice e = if e = d then (s.notice d).setEntry l none else s.notice e := by
  rw [State.retire, State.updNotice_notice]

/-! ## An entry names its window at that window's level alone (R119) -/

variable {l : Level} {e : NoticeEntry}

theorem NoticesStand.level_of_entry (hs : NoticesStand s) (he : (s.notice d).service[l] = some e) {k : Level}
    {y : NoticeEntry} (hy : (s.notice d).service[k] = some y) (hwindow : y.window = e.window) : k = l := by
  have hk := (hs.served d k y hy).2
  rw [hwindow, (hs.served d l e he).2, Option.some.injEq, Prod.mk.injEq, Option.some.injEq] at hk
  exact hk.2.symm

theorem NoticesStand.entryOf_served (hs : NoticesStand s) (he : (s.notice d).service[l] = some e) :
    (s.notice d).entryOf e.window = some (l, e) := by
  refine findSome_finRange (i := l) (by rw [he]; exact if_pos rfl) fun k hk => ?_
  split
  · rfl
  · next y hy => exact if_neg fun hwindow => Fin.ne_of_lt hk (hs.level_of_entry he hy hwindow)

theorem NoticesStand.not_inService_retire (hs : NoticesStand s) (he : (s.notice d).service[l] = some e) :
    (s.retire d l).inService e.window = false := by
  obtain ⟨w, hw, rfl, -⟩ := addressee_eq_some.mp (hs.served d l e he).2
  have hnone : ((s.retire w.owner l).notice w.owner).entryOf e.window = none := by
    refine entryOf_eq_none.mpr fun k y hy hwindow => ?_
    rw [retire_notice, if_pos rfl, NoticeRecord.setEntry, getElem_set_fin] at hy
    split at hy
    · cases hy
    · next hk => exact hk (hs.level_of_entry he hy hwindow)
  have hw' : (s.retire w.owner l).window e.window = some w := hw
  rw [State.inService, hw']
  dsimp only
  rw [hnone, Option.isSome_none]

end

/-- What a retirement that is answered DONE shows (R127, R128). -/
theorem retire_answered (s : State) (d : DomainId) (word : Word) (l : Level) (r : Words4) :
    let t := ((s.accept d word).retire d l).complete d .done r
    Answers s t d word .done r ∧ t.notice d = { s.notice d with service := (s.notice d).service.set l none } ∧
      OnlyNotice s t d ∧ (∀ h, t.inService h = (s.retire d l).inService h) ∧ Frame s t [.notices, .ports] := by
  refine ⟨answers_complete _ _ rfl, ?_, fun x hx => ?_, fun _ => rfl,
    Frame.complete (by simp) ((Frame.updNotice _ d _).mono (by simp))⟩
  · rw [State.complete_notice, retire_notice, if_pos rfl]
    rfl
  · rw [State.complete_notice, retire_notice, if_neg hx]
    rfl

/-! ## SET NOTICES (R130) -/

/-- The notice mode that a mode code of 0 or 1 names (R121). -/
def noticeModeOf (v : Nat) : NoticeMode := if v = 0 then .nested else .flat

theorem code_noticeModeOf {v : Nat} (hv : v ≤ 1) : (noticeModeOf v).code = v := by
  obtain rfl | rfl := Nat.le_one_iff_eq_zero_or_eq_one.mp hv <;> rfl

theorem decodeNoticeSetup_bad {w : Word} (h : 2 ≤ bits w 8 2) : decodeNoticeSetup w = none := by
  have hmode : NoticeMode.ofCode (bits w 8 2) = none := by
    unfold NoticeMode.ofCode
    split
    · omega
    · omega
    · rfl
  rw [decodeNoticeSetup, hmode]
  rfl

theorem decodeNoticeSetup_good {w : Word} (h : bits w 8 2 ≤ 1) :
    decodeNoticeSetup w =
      some { mask := w.extractLsb' 0 8, mode := noticeModeOf (bits w 8 2), autoRetire := w.getLsbD 12 } := by
  have hmode : NoticeMode.ofCode (bits w 8 2) = some (noticeModeOf (bits w 8 2)) := by
    obtain hv | hv := Nat.le_one_iff_eq_zero_or_eq_one.mp h <;> rw [hv] <;> rfl
  rw [decodeNoticeSetup, hmode]
  rfl

/-- A notice record with another setup (R130). -/
def NoticeRecord.setUp (n : NoticeRecord) (w : Word) : NoticeRecord :=
  { n with mask := w.extractLsb' 0 8, mode := noticeModeOf (bits w 8 2), autoRetire := w.getLsbD 12 }

theorem setNotices_bad {s : State} {d : DomainId} (t : BitVec 8) (h : 2 ≤ bits (s.taken d)[0] 8 2) :
    setNotices d t s = .refused .badValue := by
  rw [setNotices, decodeNoticeSetup_bad h]

theorem setNotices_good {s : State} {d : DomainId} (t : BitVec 8) (h : bits (s.taken d)[0] 8 2 ≤ 1) :
    setNotices d t s =
      .done (s.updNotice d fun n => n.setUp (s.taken d)[0])
        (words (setupWord (s.updNotice d fun n => n.setUp (s.taken d)[0]) d) 0 0 0) := by
  rw [setNotices, decodeNoticeSetup_good h]
  rfl

/-- The setup word after SET NOTICES is the parameter word's fields with the NOTE line at bit 16 (R130). -/
theorem setupWord_setUp (s : State) (d : DomainId) {w : Word} (h : bits w 8 2 ≤ 1) :
    setupWord (s.updNotice d fun n => n.setUp w) d =
      field (bits w 0 8) 0 ||| field (bits w 8 2) 8 ||| flag (w.getLsbD 12) 12 |||
        flag ((s.updNotice d fun n => n.setUp w).note d) 16 := by
  rw [setupWord, State.updNotice_notice, if_pos rfl, NoticeRecord.setUp, code_noticeModeOf h]
  rfl

/-! ## What a delivery shows and changes (R123, R124) -/

theorem noticeWord_of_none {s : State} {d : DomainId} (h : (s.notice d).next = none) : s.noticeWord d = 0 := by
  rw [State.noticeWord, h]

section
variable {s : State} {d : DomainId} {l : Level} {h : Handle} (hn : (s.notice d).next = some (l, h))
include hn

theorem noticeWord_of_next {w : Window} (hw : s.window h = some w) :
    s.noticeWord d = deliveredWord h l (s.pendingCauses h) w.tag := by
  rw [State.noticeWord, hn]
  dsimp only
  rw [hw, Option.elim_some]

theorem deliver_pendingCauses (x : Handle) :
    (s.deliver d).pendingCauses x = if x = h then 0 else s.pendingCauses x := by
  rw [deliver_of_next hn]
  split <;> simp

theorem deliver_notice (e : DomainId) :
    (s.deliver d).notice e =
      if e = d then
        { (s.notice d).updList l fun q => q.filter fun x => x != h with
          service :=
            if (s.notice d).autoRetire then (s.notice d).service
            else (s.notice d).service.set l (some { window := h, causes := s.pendingCauses h }) }
      else s.notice e := by
  rw [deliver_of_next hn]
  split
  · exact leaveList_notice s d e l h
  · rw [State.updNotice_notice, State.setCauses_notice, leaveList_notice, if_pos rfl, State.setCauses_notice,
      leaveList_notice]
    split <;> rfl

end

theorem frame_readData (s : State) (r : Word) : Frame s { s with readData := r } [.readData] := by
  intro b hb
  cases b <;> first | rfl | exact absurd (by simp) hb

theorem exec_acknowledge {s : State} {a : Access} {d : DomainId} (hR : Reaches s a d) :
    exec (.acknowledge a) s = .next { s.deliver d with readData := s.noticeWord d } :=
  congrArg Host.Outcome.next (hostRead_reaches 10#4 (fun d => s.deliver d) hR.1 hR.2)

end Sys2Proof.Machine

namespace Sys2Proof.Proofs

open Sys2Proof.Machine

/-- Settles O23: the two commands retire one entry alike, and differ in how they find it. -/
theorem retireNotices : Obligations.RetireNotices := by
  intro s a d tgt up hA
  have notice : ∀ {o}, retireNotice d tgt (s.accept d (commandWord 0x30 tgt up)) = .refused o →
      Refused s (.retireNotice a tgt up) d o := fun hb => refused_of hA rfl rfl hb
  refine ⟨fun hnone => notice (retireNotice_none (liveWindow_accept_none hnone _ _)), fun h w ht hw => ?_,
    fun hempty => refused_of hA rfl rfl (retireTop_none hempty), ?_⟩
  · have hl := liveWindow_accept ht hw d (commandWord 0x30 tgt up)
    refine ⟨fun ho => notice (retireNotice_notOwner hl ho), fun ho hn => notice (retireNotice_unserved hl ho ?_)⟩
    rw [State.accept_notice]
    exact ho ▸ entryOf_of_not_inService hw hn
  rintro l e r he rfl
  refine ⟨fun hagree ht => ?_, fun hbefore => ?_⟩
  · have hs := noticesAgree_iff.mp hagree
    obtain ⟨w, hw, ho, -⟩ := addressee_eq_some.mp (hs.served d l e he).2
    have hb := retireNotice_served (liveWindow_accept ht hw d (commandWord 0x30 tgt up)) ho (hs.entryOf_served he)
    obtain ⟨hans, hrec, honly, hserv, hframe⟩ :=
      retire_answered s d (commandWord 0x30 tgt up) l (words (retireWord l e) 0 0 0)
    exact ⟨_, exec_done hA rfl hb, hans, hrec, honly, (hserv _).trans (hs.not_inService_retire he), hframe⟩
  · have hb := retireTop_first (s := s.accept d (commandWord 0x31 tgt up)) (t := tgt) he hbefore
    obtain ⟨hans, hrec, honly, hserv, hframe⟩ :=
      retire_answered s d (commandWord 0x31 tgt up) l (words (retireWord l e) 0 0 0)
    exact ⟨_, exec_done hA rfl hb, hans, hrec, honly,
      fun hagree => (hserv _).trans ((noticesAgree_iff.mp hagree).not_inService_retire he), hframe⟩

/-- Settles O24. -/
theorem setNotices : Obligations.SetNotices := by
  rintro s a d tgt up p0 hA rfl
  refine ⟨fun hbad => refused_of hA rfl rfl (setNotices_bad tgt (by rwa [taken_accept])), fun hgood => ?_⟩
  have hb := setNotices_good (s := s.accept d (commandWord 0x32 tgt up)) tgt (by rwa [taken_accept])
  rw [taken_accept, setupWord_setUp _ d hgood] at hb
  refine ⟨_, exec_done hA rfl hb, ?_, answers_complete _ _ rfl, fun x hx => ?_,
    Frame.complete (by simp) ((Frame.updNotice _ d _).mono (by simp))⟩
  · rw [State.complete_notice, State.updNotice_notice, if_pos rfl]
    rfl
  · rw [State.complete_notice, State.updNotice_notice, if_neg hx]
    rfl

/-- Settles O25: the window delivered is the head of the most urgent open level with one. -/
theorem acknowledge : Obligations.Acknowledge := by
  intro s a d hR
  rw [exec_acknowledge hR]
  refine ⟨fun hnote => ?_, fun l h rest w hopen hlist hbefore hw => ?_⟩
  · have hnone : (s.notice d).next = none := by simpa [State.note] using hnote
    rw [deliver_of_none hnone, noticeWord_of_none hnone]
  have hn : (s.notice d).next = some (l, h) := next_eq_some.mpr ⟨hopen, by rw [hlist]; rfl, hbefore⟩
  have hd := (deliver_notice hn d).trans (if_pos rfl)
  refine ⟨_, rfl, noticeWord_of_next hn hw, rfl, (deliver_pendingCauses hn h).trans (if_pos rfl),
    fun x hx => (deliver_pendingCauses hn x).trans (if_neg hx), fun k => ?_, congrArg NoticeRecord.service hd,
    (congrArg NoticeRecord.mask hd).trans rfl, (congrArg NoticeRecord.mode hd).trans rfl,
    (congrArg NoticeRecord.autoRetire hd).trans rfl,
    fun x hx => (deliver_notice hn x).trans (if_neg hx),
    ((frame_deliver s d).mono (by simp)).trans ((frame_readData _ _).mono (by simp))⟩
  have hk : ((s.deliver d).notice d).lists[k] = _ := congrArg (fun n : NoticeRecord => n.lists[k]) hd
  refine (hk.trans (updList_lists _ l k _)).trans ?_
  split
  · next hkl => rw [hkl]
  · rfl

/-- Settles O26. -/
theorem noteLine : Obligations.NoteLine := by
  intro s d
  rw [State.note, Option.isSome_iff_ne_none, ne_eq, next_eq_none]
  constructor
  · intro h
    push Not at h
    obtain ⟨l, hopen, hlist⟩ := h
    obtain ⟨x, hx⟩ := List.exists_mem_of_ne_nil _ hlist
    exact ⟨l, x, hx, hopen⟩
  · rintro ⟨l, x, hx, hopen⟩ h
    obtain hclosed | hempty := h l
    · exact hclosed hopen
    · rw [hempty] at hx
      cases hx

/-- Settles O27. -/
theorem raiseJoinsList : Obligations.RaiseJoinsList := by
  intro s h w x hw
  refine ⟨raise_level_none x hw, fun l hl => ?_⟩
  have hraise := raise_level_some x hw hl
  refine ⟨?_, fun y hy => ?_, fun hp => ?_, fun hz => ⟨?_, fun e he => ?_⟩, Frame.raise s h x⟩
  · rw [hraise, State.setCauses_pendingCauses, if_pos rfl]
  · rw [hraise, State.setCauses_pendingCauses, if_neg hy]
    split
    · exact State.joinList_pendingCauses s _ l h y
    · rfl
  · rw [hraise, if_neg hp]
    rfl
  · rw [hraise, if_pos hz, State.setCauses_notice, joinList_notice, if_pos rfl]
    rfl
  · rw [hraise, if_pos hz, State.setCauses_notice, joinList_notice, if_neg he]

end Sys2Proof.Proofs

/-! What a step can do to the places of the windows and to the domain records, said once: most commands and events do
nothing to either. -/

namespace Sys2Proof.Machine

/-! ## Windows in their places, and the domain records as they were -/

/-- Every window stands in its place, and no domain record has changed. -/
structure Unmoved (s t : State) : Prop where
  places : SamePlaces s t
  domains : t.domains = s.domains

theorem Unmoved.of_records {s t : State} (hw : t.windows = s.windows) (hd : t.domains = s.domains) : Unmoved s t :=
  ⟨.refl_of_windows hw, hd⟩

theorem Unmoved.trans {s t v : State} (h : Unmoved s t) (g : Unmoved t v) : Unmoved s v :=
  ⟨h.places.trans g.places, g.domains.trans h.domains⟩

theorem Unmoved.of_frame {s t : State} {l : List Block} (hf : Frame s t l) (hw : Block.windows ∉ l)
    (hd : Block.domains ∉ l) : Unmoved s t := .of_records (hf .windows hw) (hf .domains hd)

theorem Unmoved.domain {s t : State} (h : Unmoved s t) (d : DomainId) : t.domain d = s.domain d := by
  simp only [State.domain, h.domains]

theorem Unmoved.setWindow {s t : State} {h : Handle} {w v : Window} (hw : s.window h = some w)
    (hp : v.place = w.place) (ht : t.windows = (s.setWindow h (some v)).windows) (hd : t.domains = s.domains) :
    Unmoved s t := ⟨(SamePlaces.setWindow hw hp).congr ht, hd⟩

theorem Keeps.mono {P Q : State → Prop} {x : Completion} (h : Keeps P x) (hPQ : ∀ t, P t → Q t) : Keeps Q x := by
  cases x with
  | done t r => exact hPQ t h
  | refused o => trivial
  | waits t y => exact hPQ t h

/-! ## The window and channel commands that move no window -/

section
variable (d : DomainId) (t : BitVec 8) (s : State)

theorem bindWindow_unmoved : Keeps (Unmoved s) (bindWindow d t s) := by
  unfold bindWindow
  split
  · next h w c hl _ =>
    split
    · trivial
    · split
      · trivial
      · exact .setWindow (liveWindow_mem hl) (bound_place w c _) (by simp; rfl) (by simp)
  · trivial

theorem revokeWindow_unmoved : Keeps (Unmoved s) (revokeWindow d t s) := by
  have raised : ∀ {v h w}, Unmoved s v → Unmoved s (v.raiseOverride d h w) := fun hv =>
    hv.trans (.of_records (raiseOverride_windows _ _ _ _) (raiseOverride_domains _ _ _ _))
  unfold revokeWindow
  split
  · trivial
  · next h w _ =>
    split
    · trivial
    · split
      · next c _ _ => exact raised ⟨samePlaces_revokeLinked s h c, rfl⟩
      · next c _ _ =>
        split
        · exact raised ⟨samePlaces_startDrain s h c, rfl⟩
        · exact raised ⟨samePlaces_revokeActive s h c, revokeActive_domains s h c⟩
      · trivial

theorem rewindWindow_unmoved : Keeps (Unmoved s) (rewindWindow d t s) := by
  unfold rewindWindow
  split
  · trivial
  · next h w hl =>
    split
    · trivial
    · split
      · trivial
      · exact .setWindow (v := w.rewound) (liveWindow_mem hl) rfl rfl rfl

theorem amendWindow_unmoved : Keeps (Unmoved s) (amendWindow d t s) := by
  unfold amendWindow
  split
  · trivial
  · next h w hl =>
    split
    · trivial
    · split
      · trivial
      · next x _ =>
        split
        · trivial
        · refine .setWindow (v := w.amended x) (liveWindow_mem hl) rfl ?_ (moveNotice_domains _ _ _ _)
          simp only [State.setWindow, moveNotice_windows]

theorem touchWindow_unmoved : Keeps (Unmoved s) (touchWindow d t s) := by
  unfold touchWindow
  split
  · trivial
  · next h w hl =>
    split
    · trivial
    · exact .setWindow (v := w.renewed) (liveWindow_mem hl) rfl rfl rfl

theorem disableChannel_unmoved : Keeps (Unmoved s) (disableChannel d t s) := by
  refine keeps_onChannel fun c => ?_
  split
  · trivial
  · exact .of_records rfl rfl
  · exact ⟨samePlaces_activateHead_updChannel s c _, by simp⟩
  all_goals exact .of_records rfl rfl

theorem cutChain_unmoved : Keeps (Unmoved s) (cutChain d t s) := by
  have cut : ∀ c, Unmoved s (s.cutChainOf c) := fun c => by
    refine ⟨.of_map (cutWindow_place s) fun h => ?_, frame_cutChainOf s c .domains (by simp)⟩
    rw [cutChainOf_window]
    split
    · exact .inr rfl
    · exact .inl rfl
  refine keeps_onChannel fun c => ?_
  dsimp only
  split <;> exact cut c

theorem resumeChannel_unmoved : Keeps (Unmoved s) (resumeChannel d t s) := by
  refine keeps_onChannel fun c => ?_
  split
  · trivial
  · exact ⟨(samePlaces_activateHead_updChannel s c fun ch => { ch with stall := none }).congr (by simp), by simp⟩

end

/-- The commands whose own block may free or open a window, or change a domain record. -/
def placingCommands : List (DomainId → BitVec 8 → State → Completion) :=
  [openWindow, releaseWindow, openDomain, closeDomain, setQuota, setRange, clearRange, masterClear]

/-- The block that a code names leaves windows and domain records in place, or is one of the commands that may not. -/
theorem bodyOf_unmoved (k : BitVec 8) :
    (∀ d t s, Keeps (Unmoved s) (bodyOf k d t s)) ∨ bodyOf k ∈ placingCommands := by
  have staying : ∀ f ∈ [bindWindow, revokeWindow, rewindWindow, amendWindow, touchWindow, disableChannel, cutChain,
      resumeChannel], ∀ d t s, Keeps (Unmoved s) (f d t s) := by
    simp only [List.mem_cons, List.not_mem_nil, or_false, forall_eq_or_imp, forall_eq]
    exact ⟨bindWindow_unmoved, revokeWindow_unmoved, rewindWindow_unmoved, amendWindow_unmoved, touchWindow_unmoved,
      disableChannel_unmoved, cutChain_unmoved, resumeChannel_unmoved⟩
  obtain hq | hm := bodyOf_quiet k
  · exact .inl fun d t s => .of_within (hq d t s) fun v hv => .of_frame hv (by simp [quietBlocks]) (by simp [quietBlocks])
  · rw [or_iff_not_imp_right]
    refine fun hn => staying _ ?_
    simp only [recordCommands, placingCommands, List.mem_cons, List.not_mem_nil, or_false] at hm hn ⊢
    tauto

/-! ## The end of a unit, the lease countdown and the tick -/

theorem unmoved_yield (s : State) (u : UnitRecord) : Unmoved s (s.yield u) := ⟨samePlaces_yield s u, yield_domains s u⟩

theorem unmoved_headOk (s : State) (u : UnitRecord) (w : Window) : Unmoved s (s.headOk u w) := by
  have hc : Unmoved s (s.headCounted u w) :=
    ⟨(SamePlaces.updWindow s u.window afterHeadOk_place).congr (by simp), by simp⟩
  rw [headOk_eq]
  split
  · exact hc.trans (.of_records (by simp) (by simp))
  · exact hc.trans (unmoved_yield _ u)

theorem unmoved_drainOk (s : State) (u : UnitRecord) (w : Window) : Unmoved s (s.drainOk u w) :=
  have hp : SamePlaces s (s.updWindow u.window Window.afterDrainOk) := .updWindow s u.window afterDrainOk_place
  Unmoved.trans ⟨hp.congr (by simp), by simp⟩ (unmoved_yield _ u)

theorem unmoved_headFailed (s : State) (u : UnitRecord) (f : Failure) : Unmoved s (s.headFailed u f) := by
  have hp : SamePlaces s (s.updWindow u.window (Window.failedWith f)) := .updWindow s u.window fun _ => rfl
  unfold State.headFailed
  dsimp only
  split
  · exact Unmoved.trans ⟨hp.congr (by simp), by simp⟩ (unmoved_yield _ u)
  · exact ⟨hp.congr (by simp), by simp⟩

theorem unmoved_drainFailed (s : State) (u : UnitRecord) (f : Failure) : Unmoved s (s.drainFailed u f) :=
  have hp : SamePlaces s (s.updWindow u.window (Window.failedWith f)) := .updWindow s u.window fun _ => rfl
  Unmoved.trans ⟨hp.congr (by simp), by simp⟩ (unmoved_yield _ u)

/-- The windows stand in their places and the domain records as they were, but for the end of a unit that a torn-down domain
awaits. -/
inductive UnitEnded (s : State) : State → Prop where
  | unmoved {t : State} : Unmoved s t → UnitEnded s t
  | torn {v : State} (u : UnitRecord) (w : Window) : Unmoved s v → v.window u.window = some w →
      UnitEnded s (v.tornDownEnd u w)

theorem UnitEnded.after {s t v : State} (h : Unmoved s t) (g : UnitEnded t v) : UnitEnded s v := by
  cases g with
  | unmoved g => exact .unmoved (h.trans g)
  | torn u w g hw => exact .torn u w (h.trans g) hw

theorem unitEnded_unitOk (s : State) (u : UnitRecord) : UnitEnded s (s.unitOk u) := by
  have hr : Unmoved s (s.setRecord none) := .of_records rfl rfl
  obtain ⟨-, h⟩ | ⟨w, hw, ⟨-, h⟩ | ⟨-, -, h⟩ | ⟨-, -, h⟩ | ⟨-, -, -, h⟩⟩ := unitOk_cases s u <;> rw [h]
  · exact .unmoved (hr.trans (unmoved_yield _ u))
  · exact .torn u w hr hw
  · exact .unmoved (hr.trans (unmoved_drainOk _ u w))
  · exact .unmoved (hr.trans (unmoved_headOk _ u w))
  · exact .unmoved (hr.trans (unmoved_yield _ u))

theorem unitEnded_unitFailed (s : State) (u : UnitRecord) (f : Failure) : UnitEnded s (s.unitFailed u f) := by
  have hr : Unmoved s (s.setRecord none) := .of_records rfl rfl
  obtain ⟨-, h⟩ | ⟨w, hw, ⟨-, h⟩ | ⟨-, -, h⟩ | ⟨-, -, h⟩ | ⟨-, -, -, h⟩⟩ := unitFailed_cases s u f <;> rw [h]
  · exact .unmoved (hr.trans (unmoved_yield _ u))
  · exact .torn u w hr hw
  · exact .unmoved (hr.trans (unmoved_drainFailed _ u f))
  · exact .unmoved (hr.trans (unmoved_headFailed _ u f))
  · exact .unmoved (hr.trans (unmoved_yield _ u))

theorem unitEnded_timeout (s : State) (u : UnitRecord) : UnitEnded s (s.timeout u) := by
  unfold State.timeout
  split
  · exact .after (t := s.setStale true) (.of_records rfl rfl) (unitEnded_unitFailed _ u _)
  · exact unitEnded_unitFailed s u _

theorem unitEnded_ageUnit (s : State) : UnitEnded s s.ageUnit := by
  obtain h | ⟨u, -, -, ⟨-, h⟩ | ⟨-, h⟩⟩ := ageUnit_cases s <;> rw [h]
  · exact .unmoved (.of_records rfl rfl)
  · exact unitEnded_timeout s u
  · exact .unmoved (.of_records rfl rfl)

theorem unitEnded_tick (s : State) : UnitEnded s s.tick :=
  .after (t := ({ s with clock := { s.clock with divider := 0 } } : State).countdown)
    ((Unmoved.of_records rfl rfl).trans ⟨samePlaces_countdown _, countdown_domains _⟩) (unitEnded_ageUnit _)

/-! ## Every change -/

/-- A property that reads the places of the windows and the domain records alone is kept by every change if the commands that
may change one, the end of a torn-down domain's unit and the reset keep it. A command finds the structure sound and the
domain of its port OPEN. -/
theorem Change.keeps_of_unmoved {P : State → Prop} (hP : ∀ {s t}, Unmoved s t → P s → P t)
    (hcommand : ∀ f ∈ placingCommands, ∀ d x s, Taking s d → P s → Keeps P (f d x s))
    (htorn : ∀ s u w, s.window u.window = some w → P s → P (s.tornDownEnd u w)) (hreset : P State.reset)
    {s t : State} (hx : Change s t) (hst : Upheld s) (hs : P s) : P t := by
  have ended : ∀ {v}, UnitEnded s v → P v := fun hv => by
    cases hv with
    | unmoved h => exact hP h hs
    | torn u w h hw => exact htorn _ u w hw (hP h hs)
  have same : ∀ {v}, v.windows = s.windows → v.domains = s.domains → P v := fun hw hd => hP (.of_records hw hd) hs
  cases hx with
  | unchanged => exact hs
  | command d w hr hb ho =>
    have ha : P (s.accept d w) := same rfl rfl
    have hk : Keeps P (bodyOf (codeField w) d (targetField w) (s.accept d w)) := by
      obtain hu | hm := bodyOf_unmoved (codeField w)
      · exact (hu d _ _).mono fun v hv => hP hv ha
      · exact hcommand _ hm d _ _ (.of_accept hst w hb ho) ha
    obtain ⟨v, r, hx, he⟩ | ⟨o, hx, he⟩ | ⟨v, y, hx, he⟩ :=
      apply_cases (bodyOf (codeField w) d (targetField w) (s.accept d w)) (s.accept d w) d <;> rw [he]
    · rw [hx] at hk
      exact hP (s := v) (.of_records rfl rfl) hk
    · exact hP (s := s.accept d w) (.of_records rfl rfl) ha
    · rw [hx] at hk
      exact hP (s := v) (.of_records rfl rfl) hk
  | port d f r => exact same rfl rfl
  | readZero => exact same rfl rfl
  | deliver d r => exact same (deliver_windows s d) (deliver_domains s d)
  | pin c b => exact same rfl rfl
  | request c b => exact same (by simp) (by simp)
  | busGrant u => exact same rfl rfl
  | discard => exact same rfl rfl
  | unitOk u => exact ended (unitEnded_unitOk s u)
  | busError u => exact ended (unitEnded_unitFailed s u _)
  | tick => exact ended (unitEnded_tick s)
  | expiry h => exact hP ⟨samePlaces_expire s [h], expire_domains s [h]⟩ hs
  | timeout u => exact ended (unitEnded_timeout s u)
  | reset => exact hP (s := State.reset) (.of_records rfl rfl) hreset
  | release => exact same (by simp [State.resetRelease]) (by simp [State.resetRelease])

end Sys2Proof.Machine

/-! The held and homes counts by themselves: what they depend on, without the home ranges. -/

namespace Sys2Proof.Machine

/-! ## The homes count of a slot -/

/-- The homes count of a slot, 0 where the slot is absent (R142). -/
def Domain.homesAt (x : Domain) (i : SlotId) : Nat := (x.slots[i]).elim 0 fun r => r.homes

theorem countsAgree_iff {s : State} :
    CountsAgree s ↔ ∀ d, (s.domain d).held = (s.ownedWindows d).length ∧
      ∀ i, (s.domain d).homesAt i = (s.homedWindows d i).length := .rfl

theorem homesAt_of_some {x : Domain} {i : SlotId} {r : RangeSlot} (h : x.slots[i] = some r) : x.homesAt i = r.homes := by
  rw [Domain.homesAt, h, Option.elim_some]

theorem homesAt_of_set {x y : Domain} {i : SlotId} {o : Option RangeSlot} (h : y.slots = x.slots.set i o) (j : SlotId) :
    y.homesAt j = if j = i then o.elim 0 fun r => r.homes else x.homesAt j := by
  rw [Domain.homesAt, h, getElem_set_fin]
  split <;> rfl

theorem homesAt_oneMore {x : Domain} {i : SlotId} (hi : x.slots[i] ≠ none) (j : SlotId) :
    (x.oneMore i).homesAt j = x.homesAt j + if j = i then 1 else 0 := by
  obtain ⟨r, hr⟩ := Option.ne_none_iff_exists'.mp hi
  rw [homesAt_of_set rfl]
  split
  · next h =>
    subst h
    rw [homesAt_of_some hr, hr]
    rfl
  · rfl

theorem homesAt_oneFewer (x : Domain) (i j : SlotId) :
    (x.oneFewer i).homesAt j = x.homesAt j - if j = i then 1 else 0 := by
  rw [homesAt_of_set rfl]
  split
  · next h =>
    subst h
    rw [Domain.homesAt]
    cases x.slots[j] <;> rfl
  · rfl

theorem homesAt_lessDrained (x : Domain) (d : DomainId) (i j : SlotId) :
    (x.lessDrained d i).homesAt j = x.homesAt j - if j = i then 1 else 0 := by
  rw [homesAt_of_set rfl]
  split
  · next h =>
    subst h
    rw [Domain.homesAt]
    cases x.slots[j] with
    | none => rfl
    | some r => exact emptyUnused_homes d _
  · rfl

/-! ## What the counts depend on -/

/-- Windows in their places, and domain records with the counts they had. -/
theorem CountsAgree.congr {s t : State} (hs : CountsAgree s) (hp : SamePlaces s t)
    (hd : ∀ d, (t.domain d).held = (s.domain d).held ∧ ∀ i, (t.domain d).homesAt i = (s.domain d).homesAt i) :
    CountsAgree t := countsAgree_iff.mpr fun d => by
  obtain ⟨hheld, hhomes⟩ := countsAgree_iff.mp hs d
  refine ⟨by rw [(hd d).1, hheld, hp.ownedWindows], fun i => by rw [(hd d).2, hhomes, hp.homedWindows]⟩

theorem CountsAgree.unmoved {s t : State} (hs : CountsAgree s) (h : Unmoved s t) : CountsAgree t :=
  hs.congr h.places fun d => by simp only [h.domain, implies_true, and_self]

/-- A change of one domain record that keeps its counts. -/
theorem CountsAgree.updDomain {s : State} (hs : CountsAgree s) {d : DomainId} {f : Domain → Domain}
    (hheld : (f (s.domain d)).held = (s.domain d).held)
    (hhomes : ∀ i, (f (s.domain d)).homesAt i = (s.domain d).homesAt i) : CountsAgree (s.updDomain d f) :=
  hs.congr (.refl_of_windows rfl) fun e => by
    rw [State.updDomain_domain]
    split
    · next he =>
      subst he
      exact ⟨hheld, hhomes⟩
    · exact ⟨rfl, fun _ => rfl⟩

/-- A slot without a home replaced by another without one (R146, R147). -/
theorem CountsAgree.setSlot {s : State} (hs : CountsAgree s) {d : DomainId} {i : SlotId} {o : Option RangeSlot}
    (hfree : (s.domain d).homesAt i = 0) (ho : o.elim 0 (fun r => r.homes) = 0) :
    CountsAgree (s.updDomain d fun y => { y with slots := y.slots.set i o }) := by
  refine hs.updDomain rfl fun j => ?_
  rw [homesAt_of_set rfl]
  split
  · next h => rw [h, hfree, ho]
  · rfl

/-- A live window is counted in its owner's held count and in its slot, which is present (R142, R143). -/
theorem CountsAgree.counted {s : State} (hs : CountsAgree s) {h : Handle} {w : Window} (hw : s.window h = some w) :
    0 < (s.domain w.owner).held ∧ 0 < (s.domain w.owner).homesAt w.home := by
  obtain ⟨hheld, hhomes⟩ := countsAgree_iff.mp hs w.owner
  rw [hheld, hhomes]
  exact ⟨List.length_pos_of_mem (mem_ownedWindows.mpr ⟨w, hw, rfl⟩),
    List.length_pos_of_mem (mem_homedWindows.mpr ⟨w, hw, rfl, rfl⟩)⟩

/-! ## A window more and a window fewer -/

/-- A domain record that counts one window more, homed in the slot. -/
structure CountsOneMore (x y : Domain) (i : SlotId) : Prop where
  held : y.held = x.held + 1
  homes : ∀ j, y.homesAt j = x.homesAt j + if j = i then 1 else 0

/-- With one window more, and its owner's record counting one more, the counts agree exactly if they did. -/
theorem GainsWindow.countsAgree_iff {s t : State} {h : Handle} {w : Window} (hg : GainsWindow s t h w)
    (hm : CountsOneMore (s.domain w.owner) (t.domain w.owner) w.home) (ho : OnlyDomain s t w.owner) :
    CountsAgree t ↔ CountsAgree s := by
  rw [Machine.countsAgree_iff, Machine.countsAgree_iff]
  refine forall_congr' fun d => ?_
  rw [hg.length_owned]
  simp only [hg.length_homed]
  by_cases hd : d = w.owner
  · subst hd
    simp [hm.held, hm.homes]
  · simp [hd, ho d hd]

/-- A window opened at a FREE handle, homed in a present slot (R16). -/
theorem CountsAgree.opens {s : State} (hs : CountsAgree s) {h : Handle} {w : Window} (hfree : s.window h = none)
    (hslot : (s.domain w.owner).slots[w.home] ≠ none) :
    CountsAgree ((s.setWindow h (some w)).updDomain w.owner fun y => y.oneMore w.home) := by
  have hg : GainsWindow s ((s.setWindow h (some w)).updDomain w.owner fun y => y.oneMore w.home) h w :=
    ⟨hfree, by simp, fun x hx => by simp [hx]⟩
  refine (hg.countsAgree_iff ?_ fun x hx => by simp [hx]).mpr hs
  rw [State.updDomain_domain, if_pos rfl]
  exact ⟨rfl, homesAt_oneMore hslot⟩

/-- A live window freed, and its owner's record counting one fewer (R17, R101). -/
theorem CountsAgree.frees {s : State} (hs : CountsAgree s) {h : Handle} {w : Window} (hw : s.window h = some w)
    {f : Domain → Domain} (hheld : (f (s.domain w.owner)).held = (s.domain w.owner).held - 1)
    (hhomes : ∀ j, (f (s.domain w.owner)).homesAt j = (s.domain w.owner).homesAt j - if j = w.home then 1 else 0) :
    CountsAgree ((s.freeWindow h w).updDomain w.owner f) := by
  have hg : GainsWindow ((s.freeWindow h w).updDomain w.owner f) s h w :=
    ⟨by simp, hw, fun x hx => by simp [hx]⟩
  obtain ⟨hpos, hpos'⟩ := hs.counted hw
  refine (hg.countsAgree_iff ?_ fun x hx => by simp [hx]).mp hs
  rw [State.updDomain_domain, if_pos rfl, State.freeWindow_domain]
  refine ⟨by omega, fun j => ?_⟩
  rw [hhomes]
  split
  · next hj =>
    subst hj
    omega
  · rfl

/-! ## The start and the end of a teardown -/

theorem homesAt_tornDomain {s : State} (hs : CountsAgree s) (d : DomainId) (i : SlotId) :
    (s.tornDomain d (s.domain d)).homesAt i = ((s.homedWindows d i).filter s.keptHandle).length := by
  rw [Domain.homesAt, tornDomain_slot hs]
  have hhomes := (countsAgree_iff.mp hs d).2 i
  cases hr : (s.domain d).slots[i] with
  | none =>
    rw [Domain.homesAt, hr, Option.elim_none, eq_comm, List.length_eq_zero_iff] at hhomes
    simp [hhomes]
  | some r => simp [emptyUnused_homes]

theorem CountsAgree.beginTeardown {s : State} (hs : CountsAgree s) (ds : DomainId → Bool) :
    CountsAgree (s.beginTeardown ds) := countsAgree_iff.mpr fun d => by
  rw [beginTeardown_domain, beginTeardown_ownedWindows]
  simp only [beginTeardown_homedWindows]
  cases hd : ds d with
  | false => simpa using countsAgree_iff.mp hs d
  | true => simpa using ⟨tornDomain_held hs d, homesAt_tornDomain hs d⟩

theorem CountsAgree.finishDomains {s : State} (hs : CountsAgree s) : CountsAgree s.finishDomains :=
  hs.congr (.refl_of_windows (State.finishDomains_windows s)) fun d => by
    rw [finishDomains_domain]
    exact ⟨finishedDomain_held d _, fun i => by rw [Domain.homesAt, finishedDomain_slots]; rfl⟩

/-- A CLOSED domain has no live window, so its counts are 0 (R137, R143). -/
theorem CountsAgree.of_closed {s : State} (hs : CountsAgree s) (hst : Structured s) {d : DomainId}
    (hd : (s.domain d).state = .closed) : (s.domain d).held = 0 ∧ ∀ i, (s.domain d).homesAt i = 0 := by
  have none : ∀ h w, s.window h = some w → w.owner ≠ d := fun h w hw ho => (hst.window h w hw).domain.1 (ho ▸ hd)
  obtain ⟨hheld, hhomes⟩ := countsAgree_iff.mp hs d
  refine ⟨?_, fun i => ?_⟩
  · rw [hheld, List.length_eq_zero_iff, List.eq_nil_iff_forall_not_mem]
    intro h hm
    obtain ⟨w, hw, ho⟩ := mem_ownedWindows.mp hm
    exact none h w hw ho
  · rw [hhomes, List.length_eq_zero_iff, List.eq_nil_iff_forall_not_mem]
    intro h hm
    obtain ⟨w, hw, ho, -⟩ := mem_homedWindows.mp hm
    exact none h w hw ho

end Sys2Proof.Machine

/-! The domain records: quotas, the pages of the ranges, and the ranges that a domain without quota has left. -/

namespace Sys2Proof.Machine

/-! ## A domain record within its quota -/

/-- The pages of a present slot are in order and in the address space (R141, R146). -/
def PagesInOrder (r : RangeSlot) : Prop := r.first ≤ r.last ∧ r.last ≤ Config.maxPage

/-- What every step keeps of one domain record by itself (R137, R143, R146, R152). A domain of 1 to 3 that is not OPEN has no
present slot without a home: when it is CLOSED, and owns no window, it has none at all. -/
structure DomainWithin (d : DomainId) (x : Domain) : Prop where
  quota : x.quota ≤ Config.maxQuota
  held : x.state ≠ .closed → x.held ≤ x.quota
  closed : x.state = .closed → x.quota = 0
  closing : d ≠ 0 → x.clearing = true → x.state = .closing
  pages : ∀ i : SlotId, ∀ r, x.slots[i] = some r → PagesInOrder r
  homes : d ≠ 0 → x.state ≠ .opened → ∀ i : SlotId, ∀ r, x.slots[i] = some r → 0 < r.homes

/-- Every domain record is within its quota, and the counts agree. -/
structure WithinQuotas (s : State) : Prop where
  counts : CountsAgree s
  domain : ∀ d, DomainWithin d (s.domain d)

theorem withinQuotas_of_sound {s : State} (hst : Structured s) (hc : CountsAgree s) (hd : DomainsSound s) :
    WithinQuotas s := by
  refine ⟨hc, fun d => ?_⟩
  obtain ⟨hheld, hquota, hclosed, hpages⟩ := hd d
  refine ⟨hquota, fun _ => hheld, fun h => (hclosed h).1, fun h0 => ((hst.domain d).closing h0).mp, hpages,
    fun h0 hno i r hr => ?_⟩
  cases hs : (s.domain d).state with
  | opened => exact absurd hs hno
  | closing => exact (hst.domain d).slots h0 (((hst.domain d).closing h0).mpr hs) i r hr
  | closed =>
    rw [(hclosed hs).2 i] at hr
    cases hr

theorem WithinQuotas.domainsSound {s : State} (h : WithinQuotas s) (hst : Structured s) : DomainsSound s := by
  intro d
  have hd := h.domain d
  refine ⟨?_, hd.quota, fun hclosed => ⟨hd.closed hclosed, fun i => ?_⟩, hd.pages⟩
  · by_cases hclosed : (s.domain d).state = .closed
    · rw [(h.counts.of_closed hst hclosed).1]
      exact Nat.zero_le _
    · exact hd.held hclosed
  · by_contra hne
    obtain ⟨r, hr⟩ := Option.ne_none_iff_exists'.mp hne
    have h0 : d ≠ 0 := by
      rintro rfl
      rw [hst.supervisor] at hclosed
      cases hclosed
    have hpos := hd.homes h0 (by simp [hclosed]) i r hr
    rw [← homesAt_of_some hr, (h.counts.of_closed hst hclosed).2 i] at hpos
    exact absurd hpos (Nat.lt_irrefl 0)

theorem WithinQuotas.unmoved {s t : State} (hs : WithinQuotas s) (h : Unmoved s t) : WithinQuotas t :=
  ⟨hs.counts.unmoved h, fun d => by rw [h.domain]; exact hs.domain d⟩

/-- A change of one domain record, and of windows, that keeps the counts. -/
theorem WithinQuotas.updDomain {s v : State} (hs : WithinQuotas s) (hv : v.domains = s.domains) {d : DomainId}
    {f : Domain → Domain} (hf : DomainWithin d (f (s.domain d))) (hc : CountsAgree (v.updDomain d f)) :
    WithinQuotas (v.updDomain d f) := by
  have hdomain : ∀ e, v.domain e = s.domain e := fun e => by simp only [State.domain, hv]
  refine ⟨hc, fun e => ?_⟩
  rw [State.updDomain_domain, hdomain, hdomain]
  split
  · next he =>
    subst he
    exact hf
  · exact hs.domain e

/-! ## What each change of a domain record keeps -/

theorem pagesInOrder_newSlot {p : Words4} (h : ¬ pagesAccepted (newSlot p).first (newSlot p).last = false) :
    PagesInOrder (newSlot p) := by
  simp only [pagesAccepted, Bool.not_eq_false, Bool.and_eq_true, decide_eq_true_eq] at h
  exact ⟨h.2, h.1.2⟩

theorem eq_of_emptyUnused {d : DomainId} {r r' : RangeSlot} (h : emptyUnused d r = some r') : r' = r := by
  obtain he | ⟨he, -⟩ := emptyUnused_cases d r <;> rw [he] at h <;> cases h
  rfl

section
variable {d : DomainId} {x : Domain} (hx : DomainWithin d x)
include hx

theorem DomainWithin.oneMore {i : SlotId} (hq : x.held < x.quota) : DomainWithin d (x.oneMore i) where
  quota := hx.quota
  held := fun _ => hq
  closed := hx.closed
  closing := hx.closing
  pages := fun j r hr => by
    simp only [Domain.oneMore, getElem_set_fin] at hr
    split at hr
    · obtain ⟨q, hq, rfl⟩ := Option.map_eq_some_iff.mp hr
      exact hx.pages i q hq
    · exact hx.pages j r hr
  homes := fun h0 hno j r hr => by
    simp only [Domain.oneMore, getElem_set_fin] at hr
    split at hr
    · obtain ⟨q, -, rfl⟩ := Option.map_eq_some_iff.mp hr
      exact Nat.succ_pos _
    · exact hx.homes h0 hno j r hr

theorem DomainWithin.oneFewer {i : SlotId} (ho : x.state = .opened) : DomainWithin d (x.oneFewer i) where
  quota := hx.quota
  held := fun h => (Nat.sub_le _ _).trans (hx.held h)
  closed := hx.closed
  closing := hx.closing
  pages := fun j r hr => by
    simp only [Domain.oneFewer, getElem_set_fin] at hr
    split at hr
    · obtain ⟨q, hq, rfl⟩ := Option.map_eq_some_iff.mp hr
      exact hx.pages i q hq
    · exact hx.pages j r hr
  homes := fun _ hno => absurd ho hno

theorem DomainWithin.lessDrained (i : SlotId) : DomainWithin d (x.lessDrained d i) where
  quota := hx.quota
  held := fun h => (Nat.sub_le _ _).trans (hx.held h)
  closed := hx.closed
  closing := hx.closing
  pages := fun j r hr => by
    simp only [Domain.lessDrained, getElem_set_fin] at hr
    split at hr
    · obtain ⟨q, hq, he⟩ := Option.bind_eq_some_iff.mp hr
      obtain rfl := eq_of_emptyUnused he
      exact hx.pages i q hq
    · exact hx.pages j r hr
  homes := fun h0 hno j r hr => by
    simp only [Domain.lessDrained, getElem_set_fin] at hr
    split at hr
    · obtain ⟨q, -, he⟩ := Option.bind_eq_some_iff.mp hr
      exact emptyUnused_some h0 he
    · exact hx.homes h0 hno j r hr

theorem DomainWithin.setSlot {i : SlotId} {o : Option RangeSlot} (ho : x.state = .opened)
    (hp : ∀ r ∈ o, PagesInOrder r) : DomainWithin d { x with slots := x.slots.set i o } where
  quota := hx.quota
  held := hx.held
  closed := hx.closed
  closing := hx.closing
  pages := fun j r hr => by
    rw [getElem_set_fin] at hr
    split at hr
    · exact hp r hr
    · exact hx.pages j r hr
  homes := fun _ hno => absurd ho hno

theorem DomainWithin.setQuota {q : Nat} (hq : q ≤ Config.maxQuota) (ho : x.state = .opened) (hheld : x.held ≤ q) :
    DomainWithin d { x with quota := q } where
  quota := hq
  held := fun _ => hheld
  closed := fun h => by rw [ho] at h; cases h
  closing := hx.closing
  pages := hx.pages
  homes := hx.homes

theorem DomainWithin.opens {q : Nat} (hq : q ≤ Config.maxQuota) (hc : x.state = .closed) (hheld : x.held = 0) :
    DomainWithin d { x with state := .opened, quota := q } where
  quota := hq
  held := fun _ => hheld ▸ Nat.zero_le q
  closed := fun h => by cases h
  closing := fun h0 h => by
    have := hx.closing h0 h
    rw [hc] at this
    cases this
  pages := hx.pages
  homes := fun _ hno => absurd rfl hno

theorem DomainWithin.finished : DomainWithin d (finishedDomain d x) := by
  by_cases hc : x.clearing = true
  · by_cases h0 : d = 0
    · subst h0
      rw [finishedDomain_supervisor hc]
      exact ⟨hx.quota, hx.held, hx.closed, fun h => absurd rfl h, hx.pages, fun h => absurd rfl h⟩
    · rw [finishedDomain_closes hc h0]
      have hst := hx.closing h0 hc
      exact ⟨Nat.zero_le _, fun h => absurd rfl h, fun _ => rfl, fun _ h => (by cases h), hx.pages,
        fun _ _ => hx.homes h0 (by simp [hst])⟩
  · rw [finishedDomain_not_clearing (by simpa using hc)]
    exact hx

end

/-- A slot present at the start of its domain's teardown was present with the same pages. -/
theorem tornDomain_slot_pages {s : State} {d : DomainId} {x : Domain} {i : SlotId} {r : RangeSlot}
    (h : (s.tornDomain d x).slots[i] = some r) : ∃ q, x.slots[i] = some q ∧ r.first = q.first ∧ r.last = q.last := by
  rw [State.tornDomain, getElem_ofFn_fin] at h
  split at h
  · cases h
  · next q hq =>
    obtain rfl := eq_of_emptyUnused h
    exact ⟨q, hq, rfl, rfl⟩

theorem DomainWithin.torn {d : DomainId} {x : Domain} (hx : DomainWithin d x) (ho : x.state = .opened) (s : State) :
    DomainWithin d (s.tornDomain d x) where
  quota := hx.quota
  held := fun _ => (Nat.sub_le _ _).trans (hx.held (by simp [ho]))
  closed := fun h => by
    by_cases h0 : d = 0 <;> simp [State.tornDomain, h0, ho] at h
  closing := fun h0 _ => by simp [State.tornDomain, h0]
  pages := fun i r hr => by
    obtain ⟨q, hq, hf, hl⟩ := tornDomain_slot_pages hr
    rw [PagesInOrder, hf, hl]
    exact hx.pages i q hq
  homes := fun h0 _ _ _ hr => tornDomain_slot_homes h0 hr

/-! ## The commands on domains and ranges, and those that open or free a window -/

theorem WithinQuotas.finishDomains {s : State} (hs : WithinQuotas s) : WithinQuotas s.finishDomains :=
  ⟨hs.counts.finishDomains, fun d => by rw [finishDomains_domain]; exact (hs.domain d).finished⟩

theorem WithinQuotas.finishTeardown {s : State} (hs : WithinQuotas s) : WithinQuotas s.finishTeardown := by
  unfold State.finishTeardown
  split
  · exact hs.finishDomains.unmoved (.of_records rfl rfl)
  · exact hs

theorem WithinQuotas.tornDownEnd {s : State} (hs : WithinQuotas s) {u : UnitRecord} {w : Window}
    (hw : s.window u.window = some w) : WithinQuotas (s.tornDownEnd u w) := by
  have hfreed : WithinQuotas ((s.freeWindow u.window w).updDomain w.owner fun x => x.lessDrained w.owner w.home) :=
    hs.updDomain (v := s.freeWindow u.window w) rfl ((hs.domain w.owner).lessDrained w.home)
      (hs.counts.frees hw rfl fun j => homesAt_lessDrained _ _ _ j)
  have hreleased : WithinQuotas ((((s.freeWindow u.window w).updDomain w.owner fun x =>
      x.lessDrained w.owner w.home).updChannel u.channel Channel.released).setHolder none) :=
    hfreed.unmoved (.of_records rfl rfl)
  exact hreleased.finishTeardown.unmoved (.of_frame (Frame.grantDecision _) (by simp) (by simp))

theorem tearDown_keeps_quotas {s : State} (hs : WithinQuotas s) {ds : DomainId → Bool}
    (hds : ∀ d, ds d = true → (s.domain d).state = .opened) (k : Nat → ChannelSet → Waiting) :
    Keeps WithinQuotas (s.tearDown ds k) := by
  have hbegun : WithinQuotas (s.beginTeardown ds) := by
    refine ⟨hs.counts.beginTeardown ds, fun d => ?_⟩
    rw [beginTeardown_domain]
    split
    · next hd => exact (hs.domain d).torn (hds d hd) s
    · exact hs.domain d
  unfold State.tearDown
  dsimp only
  split
  · exact hbegun.finishDomains
  · exact hbegun

section
variable {s : State} {d : DomainId} (hT : Taking s d) (hs : WithinQuotas s) (t : BitVec 8)
include hs

theorem openWindow_keeps_quotas : Keeps WithinQuotas (openWindow d t s) := by
  unfold openWindow
  split
  · trivial
  · next x _ =>
    split
    · trivial
    · split
      · trivial
      · split
        · trivial
        · next i hi =>
          split
          · trivial
          · next hq =>
            split
            · trivial
            · next h hh =>
              obtain ⟨⟨r, hr, -⟩, -⟩ := homeFor_eq_some.mp hi
              have hfree := (freeHandle_eq_some.mp hh).1
              exact hs.updDomain (v := s.setWindow h (some (openedWindow d i x))) rfl
                ((hs.domain d).oneMore (Nat.lt_of_not_le hq))
                (hs.counts.opens (w := openedWindow d i x) hfree (by simp [openedWindow, hr]))

theorem setQuota_keeps_quotas : Keeps WithinQuotas (setQuota d t s) := by
  refine keeps_supervisor (keeps_onDomain fun x => ?_)
  dsimp only
  split
  · trivial
  · next hq =>
    split
    · trivial
    · next ho =>
      split
      · trivial
      · next hheld =>
        exact hs.updDomain rfl ((hs.domain x).setQuota (Nat.le_of_not_lt hq) (not_not.mp ho) (Nat.le_of_not_lt hheld))
          (hs.counts.updDomain rfl fun _ => rfl)

theorem setRange_keeps_quotas : Keeps WithinQuotas (setRange d t s) := by
  refine keeps_supervisor (keeps_onDomain fun x => keeps_onSlot fun i => ?_)
  dsimp only
  split
  · trivial
  · next hp =>
    split
    · trivial
    · next ho =>
      split
      · trivial
      · next hu =>
        refine hs.updDomain rfl ((hs.domain x).setSlot (not_not.mp ho) fun r hr => ?_)
          (hs.counts.setSlot (slotInUse_eq_false hu) rfl)
        cases hr
        exact pagesInOrder_newSlot hp

theorem clearRange_keeps_quotas : Keeps WithinQuotas (clearRange d t s) := by
  refine keeps_supervisor (keeps_onDomain fun x => keeps_onSlot fun i => ?_)
  split
  · trivial
  · next ho =>
    split
    · trivial
    · next hu =>
      exact hs.updDomain rfl ((hs.domain x).setSlot (not_not.mp ho) fun r hr => by cases hr)
        (hs.counts.setSlot (slotInUse_eq_false hu) rfl)

theorem closeDomain_keeps_quotas : Keeps WithinQuotas (closeDomain d t s) := by
  refine keeps_supervisor (keeps_onDomain fun x => ?_)
  split
  · trivial
  · next hx =>
    refine tearDown_keeps_quotas hs (fun y hy => ?_) _
    rw [beq_iff_eq] at hy
    rw [hy]
    exact not_not.mp (not_or.mp hx).2

include hT

theorem releaseWindow_keeps_quotas : Keeps WithinQuotas (releaseWindow d t s) := by
  unfold releaseWindow
  split
  · trivial
  · next h w hl =>
    split
    · trivial
    · next ho =>
      obtain rfl := not_not.mp ho
      split
      · trivial
      · split
        · trivial
        · exact hs.updDomain (v := s.freeWindow h w) rfl ((hs.domain w.owner).oneFewer hT.opened)
            (hs.counts.frees (liveWindow_mem hl) rfl (homesAt_oneFewer _ _))

theorem openDomain_keeps_quotas : Keeps WithinQuotas (openDomain d t s) := by
  refine keeps_supervisor (keeps_onDomain fun x => ?_)
  dsimp only
  split
  · trivial
  · next hq =>
    split
    · trivial
    · next hx =>
      have hclosed := not_not.mp (not_or.mp hx).2
      exact hs.updDomain rfl ((hs.domain x).opens (Nat.le_of_not_lt hq) hclosed
        (hs.counts.of_closed hT.upheld.structured hclosed).1) (hs.counts.updDomain rfl fun _ => rfl)

theorem masterClear_keeps_quotas : Keeps WithinQuotas (masterClear d t s) := by
  have hrun : WithinQuotas s.running := hs.unmoved (.of_records rfl rfl)
  refine keeps_supervisor (tearDown_keeps_quotas hrun (fun x hx => ?_) _)
  simp only [State.clearedByMaster, Bool.or_eq_true, beq_iff_eq] at hx
  obtain rfl | hx := hx
  · exact hT.upheld.structured.supervisor
  · exact hx

end

/-- Every command that may move a window or change a domain record keeps the quotas. -/
theorem placingCommands_keep_quotas :
    ∀ f ∈ placingCommands, ∀ d t s, Taking s d → WithinQuotas s → Keeps WithinQuotas (f d t s) := by
  simp only [placingCommands, List.mem_cons, List.not_mem_nil, or_false, forall_eq_or_imp, forall_eq]
  exact ⟨fun _ t _ _ hs => openWindow_keeps_quotas hs t, fun _ t _ hT hs => releaseWindow_keeps_quotas hT hs t,
    fun _ t _ hT hs => openDomain_keeps_quotas hT hs t, fun _ t _ _ hs => closeDomain_keeps_quotas hs t,
    fun _ t _ _ hs => setQuota_keeps_quotas hs t, fun _ t _ _ hs => setRange_keeps_quotas hs t,
    fun _ t _ _ hs => clearRange_keeps_quotas hs t, fun _ t _ hT hs => masterClear_keeps_quotas hT hs t⟩

theorem withinQuotas_reset : WithinQuotas State.reset := by
  obtain ⟨-, hcounts, -, -, hst, hdomains, -⟩ := Proofs.invariantsAtReset
  exact withinQuotas_of_sound hst.upheld.structured hcounts hdomains

theorem Change.keeps_quotas {s t : State} (hx : Change s t) (hst : Upheld s) (hs : WithinQuotas s) : WithinQuotas t :=
  hx.keeps_of_unmoved (fun h hs => hs.unmoved h) placingCommands_keep_quotas
    (fun _ _ _ hw hs => hs.tornDownEnd hw) withinQuotas_reset hst hs

/-- The quotas along with the structure that the commands find. -/
theorem withinQuotasKept : KeptByStep fun s => StructureSound s ∧ WithinQuotas s := by
  refine keptByStep_of_change (fun s q ⟨hst, hs⟩ => ⟨?_, hs.unmoved (.of_records rfl rfl)⟩)
    (fun s he _ ⟨hst, hs⟩ => ⟨?_, hs.unmoved (.of_records rfl rfl)⟩)
    fun s t hx ⟨hst, hs⟩ => ⟨hx.keeps_structure hst, hx.keeps_quotas hst.upheld hs⟩
  · exact hst.congr ⟨rfl, rfl, rfl, rfl, rfl, rfl⟩ (fun _ h => h) rfl
  · refine hst.congr ⟨rfl, rfl, rfl, rfl, rfl, rfl⟩ (fun _ hr => ?_) rfl
    obtain ⟨-, -, -, -, ⟨h0, -⟩, -⟩ := hr
    exact absurd h0 he

end Sys2Proof.Machine

namespace Sys2Proof.Proofs

open Sys2Proof.Machine

/-- Settles O57. A domain of 1 to 3 that is not OPEN has no present slot without a home; a CLOSED one owns no window, so that
it has no homes, and with them no slots. -/
theorem quotasKept : Obligations.QuotasKept := by
  intro s t ⟨hst, hc, hd⟩ hstep
  obtain ⟨hst', hq⟩ := withinQuotasKept s t ⟨hst, withinQuotas_of_sound hst.upheld.structured hc hd⟩ hstep
  exact ⟨hst', hq.counts, hq.domainsSound hst'.upheld.structured⟩

end Sys2Proof.Proofs

/-! The commands on quotas and ranges, each through the one domain record that it changes, and the checks that come before a
command's own. -/

namespace Sys2Proof.Machine

/-! ## A command that changes one domain -/

/-- A command that changes one domain and completes: its port's answer, its domain, and all that it leaves. -/
theorem domain_answer (s : State) (d : DomainId) (word : Word) (r : Words4) (x : DomainId) (f : Domain → Domain) :
    Answers s (((s.accept d word).updDomain x f).complete d .done r) d word .done r ∧
      (((s.accept d word).updDomain x f).complete d .done r).domain x = f (s.domain x) ∧
      OnlyDomain s (((s.accept d word).updDomain x f).complete d .done r) x ∧
      Frame s (((s.accept d word).updDomain x f).complete d .done r) [.domains, .ports] :=
  ⟨answers_complete _ _ rfl, by simp, fun y hy => by simp [hy],
    Frame.complete (by simp) ((Frame.updDomain _ x f).mono (by simp))⟩

/-! ## The commands on quotas and ranges, by their checks in their order (R163) -/

theorem onSlot_of_val {w : Word} {i : SlotId} (hi : bits w 0 8 = i.val) (k : SlotId → Completion) :
    onSlot w k = k i := by
  rw [onSlot, index?_eq_some.mpr hi]

theorem pagesAccepted_iff {first last : Nat} : pagesAccepted first last = true ↔ first ≤ last ∧ last ≤ 0xFFFFF := by
  have hmax : Config.maxPage = 0xFFFFF := rfl
  simp only [pagesAccepted, Bool.and_eq_true, decide_eq_true_eq]
  omega

theorem slotInUse_iff {o : Option RangeSlot} : slotInUse o = true ↔ ∃ r, o = some r ∧ 0 < r.homes := by
  simp [slotInUse, Option.any_eq_true]

section
variable {s : State} {t : BitVec 8}

theorem openDomain_badHandle (ht : 4 ≤ t.toNat) : openDomain 0 t s = .refused .badHandle :=
  (supervisor_zero _).trans (onDomain_badHandle ht _)

theorem setQuota_badHandle (ht : 4 ≤ t.toNat) : setQuota 0 t s = .refused .badHandle :=
  (supervisor_zero _).trans (onDomain_badHandle ht _)

/-- A slot of 4 or more is refused whatever domain the target names: one of 4 or more has the same refusal. -/
theorem onDomain_onSlot_badHandle {w : Word} (h : 4 ≤ t.toNat ∨ 4 ≤ bits w 0 8)
    (k : DomainId → SlotId → Completion) : (onDomain t fun x => onSlot w (k x)) = .refused .badHandle := by
  obtain ht | hi := h
  · exact onDomain_badHandle ht _
  · rw [onDomain]
    split
    · rfl
    · exact onSlot_badHandle hi _

theorem setRange_badHandle (h : 4 ≤ t.toNat ∨ 4 ≤ bits (s.taken 0)[0] 0 8) : setRange 0 t s = .refused .badHandle :=
  (supervisor_zero _).trans (onDomain_onSlot_badHandle h _)

theorem clearRange_badHandle (h : 4 ≤ t.toNat ∨ 4 ≤ bits (s.taken 0)[0] 0 8) :
    clearRange 0 t s = .refused .badHandle :=
  (supervisor_zero _).trans (onDomain_onSlot_badHandle h _)

variable {x : DomainId} (ht : t.toNat = x.val)
include ht

theorem openDomain_named {q : Nat} (hq : q = bits (s.taken 0)[0] 0 8) :
    openDomain 0 t s =
      if 64 < q then .refused .badValue
      else if x = 0 ∨ (s.domain x).state ≠ .closed then .refused .state
      else .done (s.updDomain x fun y => { y with state := .opened, quota := q })
        (words (field x.val 0 ||| field q 8) 0 0 0) := by
  rw [openDomain, supervisor_zero, onDomain_of_val ht, hq]
  rfl

theorem setQuota_named {q : Nat} (hq : q = bits (s.taken 0)[0] 0 8) :
    setQuota 0 t s =
      if 64 < q then .refused .badValue
      else if (s.domain x).state ≠ .opened then .refused .state
      else if q < (s.domain x).held then .refused .quota
      else .done (s.updDomain x fun y => { y with quota := q })
        (words (field q 8 ||| field (s.domain x).held 16) 0 0 0) := by
  rw [setQuota, supervisor_zero, onDomain_of_val ht, hq]
  rfl

variable {i : SlotId} (hi : bits (s.taken 0)[0] 0 8 = i.val)
include hi

theorem setRange_named {p : Words4} (hp : p = s.taken 0) :
    setRange 0 t s =
      if pagesAccepted (newSlot p).first (newSlot p).last = false then .refused .badValue
      else if (s.domain x).state ≠ .opened then .refused .state
      else if slotInUse (s.domain x).slots[i] then .refused .inUse
      else .done (s.updDomain x fun y => { y with slots := y.slots.set i (some (newSlot p)) })
        (words (slotWord i (newSlot p)) (field (newSlot p).first 0) (field (newSlot p).last 0) 0) := by
  rw [setRange, supervisor_zero, onDomain_of_val ht, onSlot_of_val hi, hp]

theorem clearRange_named :
    clearRange 0 t s =
      if (s.domain x).state ≠ .opened then .refused .state
      else if slotInUse (s.domain x).slots[i] then .refused .inUse
      else .done (s.updDomain x fun y => { y with slots := y.slots.set i none }) noResults := by
  rw [clearRange, supervisor_zero, onDomain_of_val ht, onSlot_of_val hi]

end

/-- A page word is its own number (R178). -/
theorem field_toNat (w : Word) : field w.toNat 0 = w := by
  rw [field, BitVec.shiftLeft_zero, BitVec.ofNat_toNat, BitVec.setWidth_eq]

/-! ## The checks before a command's own (R139, R161, R163, R175) -/

theorem supervisor_denied {d : DomainId} (hd : d ≠ 0) (k : Completion) : supervisor d k = .refused .privilege :=
  if_neg hd

theorem readDomain_denied {d : DomainId} {t : BitVec 8} {s : State} (hd : d ≠ 0) (ht : t.toNat ≠ d.val) :
    readDomain d t s = .refused .privilege := if_pos ⟨hd, ht⟩

/-- A code that the table of command codes does not list names no command (R175). -/
theorem bodyOf_unlisted {k : BitVec 8}
    (hk : k.toNat ∉ [0x10, 0x11, 0x12, 0x13, 0x14, 0x15, 0x16, 0x17, 0x20, 0x21, 0x22, 0x23, 0x24, 0x25, 0x26, 0x27, 0x28,
      0x30, 0x31, 0x32, 0x40, 0x41, 0x42, 0x43, 0x44, 0x45, 0x46, 0x47, 0x48, 0x49, 0x4A, 0x4B, 0x4F]) :
    bodyOf k = unknownCode := by
  unfold bodyOf
  split
  case h_34 => rfl
  all_goals
    next hcode => exact absurd (by simp [hcode]) hk

/-- A command is the COMMAND write of its word (R161, R175). -/
theorem exec_encoded {i : Instr} {a : Access} {w : Word} (hi : encodeCommandWord i = some (a, w)) (s : State) :
    exec i s = .next (s.hostWrite a fun d => s.commandWordWrite d w) := by
  cases i <;> cases hi
  case unknownCommand => rfl
  all_goals exact congrArg Host.Outcome.next (hostWrite_body s _ _ _ _)

end Sys2Proof.Machine

namespace Sys2Proof.Proofs

open Sys2Proof.Machine

/-- Settles O28: the two commands through their checks in their order, then through the one record that they change. -/
theorem domainsAndQuotas : Obligations.DomainsAndQuotas := by
  intro s a tgt up q hA hq
  have opens : ∀ {o}, Machine.openDomain 0 tgt (s.accept 0 (commandWord 0x40 tgt up)) = .refused o →
      Refused s (.openDomain a tgt up) 0 o := fun hb => refused_of hA rfl rfl hb
  have quota : ∀ {o}, Machine.setQuota 0 tgt (s.accept 0 (commandWord 0x42 tgt up)) = .refused o →
      Refused s (.setQuota a tgt up) 0 o := fun hb => refused_of hA rfl rfl hb
  refine ⟨fun ht => ⟨opens (openDomain_badHandle ht), quota (setQuota_badHandle ht)⟩, fun x ht => ?_⟩
  have hopen := openDomain_named (s := s.accept 0 (commandWord 0x40 tgt up)) ht (q := q) (by rwa [taken_accept])
  have hquota := setQuota_named (s := s.accept 0 (commandWord 0x42 tgt up)) ht (q := q) (by rwa [taken_accept])
  rw [State.accept_domain] at hopen hquota
  refine ⟨fun hbad => ⟨opens (hopen.trans (if_pos hbad)), quota (hquota.trans (if_pos hbad))⟩, fun hle hst => ?_,
    fun hle hst => ?_, fun hle hst hheld => ?_, fun hle h0 hst => ?_, fun hle hst hheld => ?_⟩
  all_goals
    rw [if_neg (Nat.not_lt_of_ge hle)] at hopen hquota
  · exact opens (hopen.trans (if_pos hst))
  · exact quota (hquota.trans (if_pos hst))
  · exact quota (hquota.trans ((if_neg (not_not_intro hst)).trans (if_pos hheld)))
  · rw [if_neg (not_or_intro h0 (not_not_intro hst))] at hopen
    exact ⟨_, exec_done hA rfl hopen, domain_answer s 0 _ _ x _⟩
  · rw [if_neg (not_not_intro hst), if_neg (Nat.not_lt_of_ge hheld)] at hquota
    exact ⟨_, exec_done hA rfl hquota, domain_answer s 0 _ _ x _⟩

/-- Settles O29: likewise, with the slot named beside the domain. -/
theorem ranges : Obligations.Ranges := by
  rintro s a tgt up _ _ _ hA rfl rfl rfl
  have sets : ∀ {o}, Machine.setRange 0 tgt (s.accept 0 (commandWord 0x43 tgt up)) = .refused o →
      Refused s (.setRange a tgt up) 0 o := fun hb => refused_of hA rfl rfl hb
  have clears : ∀ {o}, Machine.clearRange 0 tgt (s.accept 0 (commandWord 0x44 tgt up)) = .refused o →
      Refused s (.clearRange a tgt up) 0 o := fun hb => refused_of hA rfl rfl hb
  refine ⟨fun h => ⟨sets (setRange_badHandle (by rwa [taken_accept])),
    clears (clearRange_badHandle (by rwa [taken_accept]))⟩, fun x i ht hi => ?_⟩
  have hset := setRange_named (s := s.accept 0 (commandWord 0x43 tgt up)) ht (i := i) (by rwa [taken_accept])
    (taken_accept s 0 _).symm
  have hclear := clearRange_named (s := s.accept 0 (commandWord 0x44 tgt up)) ht (i := i) (by rwa [taken_accept])
  rw [State.accept_domain] at hset hclear
  have hgood : ∀ {first last : Word}, first.toNat ≤ last.toNat → last.toNat ≤ 0xFFFFF →
      ¬ pagesAccepted first.toNat last.toNat = false := fun h1 h2 => by simp [pagesAccepted_iff.mpr ⟨h1, h2⟩]
  refine ⟨fun hbad => sets (hset.trans (if_pos ?_)), fun hst => ⟨fun h1 h2 => ?_, clears (hclear.trans (if_pos hst))⟩,
    fun r hst hr hpos => ?_, fun hst hfree => ?_⟩
  · rw [Bool.eq_false_iff, ne_eq, pagesAccepted_iff]
    simp only [newSlot]
    omega
  · exact sets (hset.trans ((if_neg (hgood h1 h2)).trans (if_pos hst)))
  all_goals
    rw [if_neg (not_not_intro hst)] at hset hclear
  · have huse := slotInUse_iff.mpr ⟨r, hr, hpos⟩
    exact ⟨fun h1 h2 => sets (hset.trans ((if_neg (hgood h1 h2)).trans (if_pos huse))),
      clears (hclear.trans (if_pos huse))⟩
  · have hunused : ¬ slotInUse (s.domain x).slots[i] = true := fun h => by
      obtain ⟨r, hr, hpos⟩ := slotInUse_iff.mp h
      exact absurd (hfree r hr) (Nat.ne_of_gt hpos)
    rw [if_neg hunused] at hset hclear
    refine ⟨fun h1 h2 => ?_, _, exec_done hA rfl hclear, domain_answer s 0 _ _ x _⟩
    have hdone := hset.trans (if_neg (hgood h1 h2))
    simp only [newSlot, field_toNat] at hdone
    exact ⟨_, exec_done hA rfl hdone, domain_answer s 0 _ _ x _⟩

/-- Settles O37: CLOSED before any command's own block is asked, UNKNOWN and PRIVILEGE as the first answer of the block that
the code names. -/
theorem firstThreeChecks : Obligations.FirstThreeChecks := by
  intro s a d hR hb
  refine ⟨fun hclosed i w hi => ?_, fun ho => ?_⟩
  · have hexec := exec_encoded hi s
    rw [hostWrite_reaches _ hR.1 hR.2, State.commandWordWrite, commandWrite_closed hb hclosed] at hexec
    exact ⟨_, hexec, answers_complete _ _ rfl, Frame.complete (by simp) (Frame.refl _ _)⟩
  have hA : Admits s a d := ⟨hR, hb, ho⟩
  refine ⟨fun w hw => ?_, fun hd tgt up => ⟨?_, fun ht => refused_of hA rfl rfl (readDomain_denied hd ht)⟩⟩
  · refine refused_of (k := codeField w) (t := targetField w) (u := upperField w) (body := unknownCode) hA ?_ ?_ rfl
    · rw [exec_encoded rfl, ← bodyOf_unlisted hw, commandWord_fields]
      rfl
    · exact (commandWord_fields w).symm
  · simp only [List.mem_cons, List.not_mem_nil, or_false, forall_eq_or_imp, forall_eq]
    have denied : ∀ {k}, supervisor d k = .refused .privilege := supervisor_denied hd _
    exact ⟨refused_of hA rfl rfl denied, refused_of hA rfl rfl denied, refused_of hA rfl rfl denied,
      refused_of hA rfl rfl denied, refused_of hA rfl rfl denied, refused_of hA rfl rfl denied,
      refused_of hA rfl rfl denied, refused_of hA rfl rfl denied, refused_of hA rfl rfl denied,
      refused_of hA rfl rfl denied, refused_of hA rfl rfl denied, refused_of hA rfl rfl denied⟩

end Sys2Proof.Proofs

namespace Sys2Proof.Machine

/-! ## The aperture that an access reaches, and none (R158) -/

/-- Of the 16 patterns of chip selects, those with one asserted name its aperture, and both strobes together name none. -/
theorem apertureOf_eq_some_iff (a : Access) (d : DomainId) :
    apertureOf a = some d ↔ a.bothStrobes = false ∧ ∀ k : DomainId, a.chipSelects.getLsbD k.val = decide (k = d) := by
  obtain ⟨selects, both⟩ := a
  cases both with
  | true => simp [apertureOf]
  | false =>
    revert selects d
    decide

section
variable {s : State} {a : Access}

/-- A read with several chip selects returns 0 and has no effect. -/
theorem hostRead_several (r : BitVec 4) (f : DomainId → State) (hr : s.resetAsserted = false) (ha : apertureOf a = none)
    (hb : a.bothStrobes = false) (hc : a.chipSelects ≠ 0) : s.hostRead a r f = { s with readData := 0 } := by
  have hsev : severalSelected a = true := by simpa [severalSelected, ha, hb] using hc
  simp [State.hostRead, hr, ha, hsev]

/-- With both strobes, or with no chip select, no word is driven. -/
theorem hostRead_undriven (r : BitVec 4) (f : DomainId → State) (ha : apertureOf a = none)
    (h : a.bothStrobes = true ∨ a.chipSelects = 0) : s.hostRead a r f = s := by
  have hsev : severalSelected a = false := by
    obtain h | h := h <;> simp [severalSelected, h]
  simp [State.hostRead, ha, hsev]

end

/-! ## A COMMAND write is its word (R161, R175) -/

/-- The word of the command that a word names is that word, its target and its reserved bits among it. -/
theorem encodeCommandWord_decodeCommandWord (a : Access) (w : Word) :
    encodeCommandWord (decodeCommandWord a w) = some (a, w) := by
  have listed {c : BitVec 8} (hc : (codeField w).toNat = c.toNat) :
      some (a, commandWord c (targetField w) (upperField w)) = some (a, w) := by
    rw [← BitVec.eq_of_toNat_eq hc, commandWord_fields]
  unfold decodeCommandWord
  split
  case h_34 => rfl
  all_goals
    next hcode => exact listed hcode

/-- A command or a DISCARDED_WRITE of a word is the COMMAND write of that word. -/
theorem exec_commandWrite {i : Instr} {a : Access} {w : Word}
    (hi : encodeCommandWord i = some (a, w) ∨ i = .discardedWrite a w) (s : State) :
    exec i s = .next (s.hostWrite a fun d => s.commandWordWrite d w) := by
  obtain hi | rfl := hi
  · exact exec_encoded hi s
  · rfl

/-- So is a register write of it to COMMAND, the register at offset 0. -/
theorem exec_registerWrite_command (s : State) (a : Access) (w : Word) :
    exec (.registerWrite a 0 w) s = .next (s.hostWrite a fun d => s.commandWordWrite d w) := rfl

theorem commandWordWrite_busy {s : State} {d : DomainId} (w : Word) (hb : (s.port d).busy = true) :
    s.commandWordWrite d w = s.updPort d fun p => { p with overrun := true } := commandWrite_busy hb

/-! ## The registers of an aperture (R158, R160) -/

section
variable (s : State) (d : DomainId) {r : BitVec 4}

theorem registerWrite_param {k : Fin 4} (v : Word) (hr : r.toNat = k.val + 1) :
    s.registerWrite d r v = s.updPort d fun p => { p with params := p.params.set k v } := by
  rw [State.registerWrite, hr]
  fin_cases k <;> rfl

/-- RESULT, STATUS, ACKNOWLEDGE, PEEK and the offsets without a register ignore a write. -/
theorem registerWrite_ignored (v : Word) (hr : 5 ≤ r.toNat) : s.registerWrite d r v = s := by
  unfold State.registerWrite
  split
  case h_6 => rfl
  all_goals omega

theorem readRegister_command (hr : r.toNat = 0) : s.readRegister d r = (s.port d).commandWord := by
  rw [State.readRegister, hr]
  rfl

theorem readRegister_param {k : Fin 4} (hr : r.toNat = k.val + 1) : s.readRegister d r = (s.port d).params[k] := by
  rw [State.readRegister, hr]
  fin_cases k <;> rfl

theorem readRegister_result {k : Fin 4} (hr : r.toNat = k.val + 5) : s.readRegister d r = (s.port d).results[k] := by
  rw [State.readRegister, hr]
  fin_cases k <;> rfl

theorem readRegister_unused (hr : 12 ≤ r.toNat) : s.readRegister d r = 0 := by
  unfold State.readRegister
  split
  case h_13 => rfl
  all_goals omega

theorem Frame.updPort (f : Port → Port) : Frame s (s.updPort d f) [.ports] := by
  intro b hb
  cases b <;> first | rfl | exact absurd (by simp) hb

/-- A write of one port record changes that record alone. -/
theorem updPort_answer (f : Port → Port) :
    (s.updPort d f).port d = f (s.port d) ∧ OnlyPort s (s.updPort d f) d ∧ Frame s (s.updPort d f) [.ports] :=
  ⟨(State.updPort_port s d f d).trans (if_pos rfl), OnlyPort.of_updPort s d f, Frame.updPort s d f⟩

end

theorem exec_registerWrite {s : State} {a : Access} {d : DomainId} (hR : Reaches s a d) (r : BitVec 4) (v : Word) :
    exec (.registerWrite a r v) s = .next (s.registerWrite d r v) :=
  congrArg Host.Outcome.next (hostWrite_reaches _ hR.1 hR.2)

theorem exec_statusRead {s : State} {a : Access} {d : DomainId} (hR : Reaches s a d) :
    exec (.statusRead a) s =
      .next { s.updPort d fun p => { p with overrun := false } with readData := s.statusWord d } :=
  congrArg Host.Outcome.next (hostRead_reaches 9#4 _ hR.1 hR.2)

end Sys2Proof.Machine

namespace Sys2Proof.Proofs

open Sys2Proof.Machine

/-- Settles O1, by the equation of a step on a queue that is not empty. -/
theorem queueFront : Obligations.QueueFront := by
  intro s c rest hq
  rw [step, hq]

/-- Settles O38: whatever its label, a COMMAND write is its word, and a busy port discards every word. -/
theorem busyPortDiscards : Obligations.BusyPortDiscards := by
  intro s a d i w hR hb hi
  have hexec := exec_commandWrite hi s
  rw [hostWrite_reaches _ hR.1 hR.2, commandWordWrite_busy w hb] at hexec
  exact ⟨_, hexec, updPort_answer s d _⟩

/-- Settles O39: the writes through the access that misses, the reads by whether a word is driven. -/
theorem apertureSelection : Obligations.ApertureSelection := by
  refine ⟨apertureOf_eq_some_iff, fun s a ha => ?_⟩
  have missed (f : DomainId → State) : s.hostWrite a f = s := hostWrite_misses f (.inr ha)
  refine ⟨fun i w hi => ?_, fun w => congrArg _ (missed _), fun r v => congrArg _ (missed _),
    fun hr hb hc => ⟨?_, ?_⟩, fun h => ⟨?_, ?_⟩⟩
  · rw [exec_commandWrite (.inl hi), missed]
  · exact congrArg _ (hostRead_several 9#4 _ hr ha hb hc)
  · exact congrArg _ (hostRead_several 10#4 _ hr ha hb hc)
  · exact congrArg _ (hostRead_undriven 9#4 _ ha h)
  · exact congrArg _ (hostRead_undriven 10#4 _ ha h)

/-- Settles O40, register by register. -/
theorem registerAccesses : Obligations.RegisterAccesses := by
  refine ⟨fun s a d hR => ⟨fun k r v hr => ?_, fun r v hr => ?_, ?_⟩, fun s d r => ⟨readRegister_command s d,
    fun k => readRegister_param s d, fun k => readRegister_result s d, readRegister_unused s d⟩⟩
  · have hexec := exec_registerWrite hR r v
    rw [registerWrite_param s d v hr] at hexec
    exact ⟨_, hexec, updPort_answer s d _⟩
  · rw [exec_registerWrite hR, registerWrite_ignored s d v hr]
  · obtain ⟨hport, honly, hframe⟩ := updPort_answer s d fun p => { p with overrun := false }
    exact ⟨_, exec_statusRead hR, rfl, hport, honly, (hframe.mono (by simp)).trans ((frame_readData _ _).mono (by simp))⟩

/-- Settles O41: each of the three is the COMMAND write of the word. -/
theorem commandWordLabels : Obligations.CommandWordLabels := by
  intro s a w
  have hexec := exec_encoded (encodeCommandWord_decodeCommandWord a w) s
  exact ⟨(exec_commandWrite (.inr rfl) s).trans hexec.symm, (exec_registerWrite_command s a w).trans hexec.symm⟩

end Sys2Proof.Proofs

namespace Sys2Proof.Machine

/-! ## The code of a word and its label (R163, R175) -/

/-- The code of a word is not listed exactly when the word names no command, through whatever access it is written. -/
theorem listedCode_eq_false_iff (a : Access) (w : Word) :
    listedCode w = false ↔ decodeCommandWord a w = .unknownCommand a w := by
  unfold decodeCommandWord
  split
  case h_34 => simp [listedCode, decodeCommandWord]
  all_goals
    next hcode => simp [listedCode, decodeCommandWord, hcode]

/-- What a word decodes to is labelled as it should be: UNKNOWN_COMMAND for an unlisted code alone, and never a
REGISTER_WRITE. -/
theorem wellFormed_decodeCommandWord (a : Access) (w : Word) : (decodeCommandWord a w).wellFormed = true := by
  have hword := encodeCommandWord_decodeCommandWord a w
  cases hi : decodeCommandWord a w <;> rw [hi] at hword
  case unknownCommand =>
    cases hword
    simpa [Instr.wellFormed] using (listedCode_eq_false_iff a w).mpr hi
  case registerWrite => cases hword
  all_goals rfl

/-- The word of a well-formed command decodes to it: a listed one by its three fields, UNKNOWN_COMMAND by its unlisted
code. -/
theorem decodeCommandWord_of_encoded {i : Instr} {a : Access} {w : Word} (hwf : i.wellFormed = true)
    (hi : encodeCommandWord i = some (a, w)) : decodeCommandWord a w = i := by
  cases i <;> cases hi
  case unknownCommand => exact (listedCode_eq_false_iff a w).mp (by simpa [Instr.wellFormed] using hwf)
  all_goals
    rw [decodeCommandWord, codeField_commandWord, targetField_commandWord, upperField_commandWord]
    rfl

/-! ## While RESETN stays asserted (R179) -/

section
variable {s : State} (hr : s.resetAsserted = true)
include hr

theorem hostRead_inReset (a : Access) (r : BitVec 4) (f : DomainId → State) : s.hostRead a r f = s := if_pos hr

theorem unlessReset_inReset (t : State) : s.unlessReset t = s := if_pos hr

theorem tickDelivered_inReset : s.tickDelivered = false := by simp [State.tickDelivered, hr]

/-- The pin moves, and its new level is not recorded. -/
theorem requestLine_inReset (c : ChannelId) (b : Bool) : s.requestLine c b = { s with rq := s.rq.set c b } := if_pos hr

/-- No event but those of RESETN and the request lines is taken: a host access reaches no aperture, the memory bus is not
heard, and no tick is delivered. -/
theorem exec_inReset {i : Instr} (hassert : i ≠ .hardwareReset) (hrelease : i ≠ .resetRelease)
    (hline : ∀ c : ChannelId, i ≠ .requestAssertion c ∧ i ≠ .requestWithdrawal c) : exec i s = .next s := by
  have written (a : Access) (f : DomainId → State) : s.hostWrite a f = s := hostWrite_misses f (.inl hr)
  have command {a : Access} {w : Word} (hi : encodeCommandWord i = some (a, w) ∨ i = .discardedWrite a w) :
      exec i s = .next s := by rw [exec_commandWrite hi, written]
  have noTick : ¬ s.tickDelivered = true := by simp [tickDelivered_inReset hr]
  cases i
  case hardwareReset => exact absurd rfl hassert
  case resetRelease => exact absurd rfl hrelease
  case requestAssertion c => exact absurd rfl (hline c).1
  case requestWithdrawal c => exact absurd rfl (hline c).2
  case discardedWrite => exact command (.inr rfl)
  case registerWrite => exact congrArg _ (written _ _)
  case statusRead => exact congrArg _ (hostRead_inReset hr _ _ _)
  case acknowledge => exact congrArg _ (hostRead_inReset hr _ _ _)
  case mbgnt => exact congrArg _ (unlessReset_inReset hr _)
  case mdone => exact congrArg _ (unlessReset_inReset hr _)
  case merr => exact congrArg _ (unlessReset_inReset hr _)
  case strobeEnd => exact congrArg _ (unlessReset_inReset hr _)
  case leaseTick => exact congrArg _ (if_neg noTick)
  case leaseExpiry => exact congrArg _ (if_neg fun h => noTick h.1)
  case unitTimeout => exact congrArg _ (if_neg noTick)
  all_goals exact command (.inl rfl)

end

end Sys2Proof.Machine

namespace Sys2Proof.Proofs

open Sys2Proof.Machine

/-- Settles O42: a word and the command that it names give each other back. -/
theorem commandWordRoundTrip : Obligations.CommandWordRoundTrip :=
  ⟨fun _ _ _ => decodeCommandWord_of_encoded,
    fun a w => ⟨encodeCommandWord_decodeCommandWord a w, wellFormed_decodeCommandWord a w⟩⟩

/-- Settles O5: the request lines move their pins, every other event is not taken, and a CLK period finds the divider
stopped. -/
theorem noEventInReset : Obligations.NoEventInReset := by
  intro s hr
  refine ⟨fun c => ⟨?_, ?_⟩, fun i hassert hrelease hline => exec_inReset hr hassert hrelease hline, fun hq => ?_⟩
  · exact congrArg _ (requestLine_inReset hr c true)
  · exact congrArg _ (requestLine_inReset hr c false)
  · rw [step_of_empty hq, clkPeriod_of_stopped (.inl hr)]

end Sys2Proof.Proofs
